-- ==== Sys2Proof/Word.lean ====
section
/-! DEFINITION. The word types of the NW4120 (spec/00_scope.md, Conventions). Only what the manual treats as
bits is a bit vector: bytes, sequence numbers (modulo 65,536), 40-bit line addresses and byte-enable sets. -/
namespace Sys2Proof

/-- One byte: what one character of a serial line carries (R134), and one byte place of a line. -/
abbrev Byte := BitVec 8

/-- A sequence number of the mirror link; sequence numbers count modulo 65,536 (00_scope.md, Conventions). -/
abbrev SeqNum := BitVec 16

/-- A 40-bit byte address; a line address has its low six bits zero (R2, R86). -/
abbrev LineAddr := BitVec 40

/-- A byte-enable set: the bit of weight 2^k stands for byte k of the 64-byte line (R110). -/
abbrev ByteSet := BitVec 64

end Sys2Proof
end

