-- ==== Sys2Proof/Config.lean ====
section
/-! DEFINITION. The sizes that the manual fixes for the part, each with the rule that states it. The manual
leaves no size and no instruction result of the part to an implementation, so this file holds no free value. -/
namespace Sys2Proof.Config

/-- Entry places of the mirror journal (R1, R7). -/
@[simp] def journalPlaces : Nat := 512
/-- 64-byte slots of the journal's data store (R5, R7). -/
@[simp] def journalSlots : Nat := 512
/-- Places of the held completion list (R56, R58). -/
@[simp] def heldPlaces : Nat := 32
/-- Frames the replica's apply queue holds at most (R160). -/
@[simp] def applyPlaces : Nat := 16
/-- The queue length at which the replica asserts HOLD (R161). -/
@[simp] def holdHigh : Nat := 12
/-- The queue length at or below which the replica withdraws HOLD (R161). -/
@[simp] def holdLow : Nat := 8
/-- Records the exception list holds at most (R174). -/
@[simp] def exceptionPlaces : Nat := 16
/-- Responses the service port's response list holds at most (R189). -/
@[simp] def responsePlaces : Nat := 4
/-- The most pages that the valid MIRROR entries cover together (R70, R77). -/
@[simp] def mirrorPageLimit : Nat := 65536
/-- Page numbers are below this: 2^28 (R70). -/
@[simp] def pageLimit : Nat := 268435456
/-- Where a 32-bit count stays once it gets there: 2^32 - 1 (R42, R55, R143, R198). -/
@[simp] def countTop : Nat := 4294967295
/-- Where a 16-bit count stays once it gets there: 65,535 (R37, R50, R176). -/
@[simp] def shortTop : Nat := 65535

end Sys2Proof.Config
end

