-- ==== Sys2Proof/Syntax.lean ====
section
/-! DEFINITION. The commands of the part: one constructor of `Instr` per row of spec/opcode_table.json, with the
operands the step takes from outside, and the operand types. 95_what_each_step_holds.md says what each step holds. -/
namespace Sys2Proof

/-- What a host request asks of its line (R86). -/
inductive ReqKind where
  | read
  | write
deriving DecidableEq, Repr

/-- The status a memory response or a host response carries (R86, R87). -/
inductive MemStatus where
  | okay
  | error
deriving DecidableEq, Repr

/-- A host request as the host side presents it (R86). The bytes of a WRITE are its enabled bytes in ascending
address order; a READ has an empty set and no bytes (notes/assumptions/30.md). -/
structure HostRequest where
  kind   : ReqKind
  source : Byte
  tag    : Fin 64
  addr   : LineAddr
  be     : ByteSet
  data   : List Byte
deriving DecidableEq, Repr

/-- The two serial lines (chapter 7). -/
inductive LineId where
  | link
  | service
deriving DecidableEq, Repr

/-- The two halves of a line, which take a pending divisor separately (R136). For a receiver the step says whether a
character is under reception at its event: its start bit has begun and its stop bit has not been sampled (R139). -/
inductive Half where
  | transmitter
  | receiver (underReception : Bool)
deriving DecidableEq, Repr

/-- A character of a line, as a transmitter sends it or a receiver samples it: data byte, mark bit, parity bit and stop bit
(R134, R139). -/
structure Character where
  data   : Byte
  mark   : Bool
  parity : Bool
  stop   : Bool
deriving DecidableEq, Repr

/-- What a receiver delivers to its owner: a complete frame, or the header of an oversize frame (R141). -/
inductive Delivery where
  | frame (bytes : List Byte)
  | oversize (header : List Byte)
deriving DecidableEq, Repr

/-- The result a WELCOME carries, by its code 0, 1, 2 (R110). -/
inductive WelcomeResult where
  | accept
  | refuseRegions
  | refuseRevision
deriving DecidableEq, Repr

/-- The reason a BYE carries, by its code 0 to 4 (R110). -/
inductive ByeReason where
  | stopped
  | protocol
  | applyFault
  | promoted
  | roleConflict
deriving DecidableEq, Repr

/-- The body of a HELLO (R110): bit 0 of the flags is CATCHUP_FOLLOWS, bit 1 CLEAN_START. -/
structure HelloBody where
  digest   : BitVec 32
  flags    : Byte
  window   : Byte
  revision : Byte
deriving DecidableEq, Repr

/-- The body of a sequenced frame, DATA, MARK, PAGE or DONE (R109, R110). -/
inductive SeqBody where
  | data (addr : LineAddr) (be : ByteSet) (bytes : List Byte)
  | mark (value : BitVec 32) (region : Fin 32)
  | page (page : BitVec 28) (chunk : Fin 16) (bytes : List Byte)
  | done (copied skipped : BitVec 32)
deriving DecidableEq, Repr

/-- The nine frame types of the mirror link (R109). `seq` gathers the four sequenced types. -/
inductive FrameBody where
  | hello (b : HelloBody)
  | welcome (r : WelcomeResult)
  | bye (r : ByeReason)
  | seq (n : SeqNum) (b : SeqBody)
  | ack (n : SeqNum)
  | nak (n : SeqNum)
deriving DecidableEq, Repr

/-- A mirror-link frame without its length and its check code, which `encodeLink` computes (R107). -/
structure LinkFrame where
  session : Byte
  body    : FrameBody
deriving DecidableEq, Repr

/-- The scope of a RESYNC (R54, R196). `other` is a scope byte above 2, refused with RANGE. -/
inductive ResyncScope where
  | pages (base count : BitVec 32)
  | region (index : Byte)
  | all
  | other (scope : Byte)
deriving DecidableEq, Repr

/-- The steps of the part, one constructor per row of spec/opcode_table.json. Service commands carry the values of
their command frame's body (chapter 10) and frame steps the fields of the frame taken (chapter 6), as the delivery that
their line's owner takes has them (R142). `hostRequestTake` carries the request that the host side presents next, if one
arrives before the take (R90). -/
inductive Instr where
  | powerOnReset
  | boardResetAssert
  | boardResetRelease (strapHigh : Bool)
  | hostRequestTake (presented : Option HostRequest)
  | memorySideGrant
  | memoryResponse (source : Byte) (tag : Fin 64) (status : MemStatus) (data : List Byte)
  | hostResponsePassBack
  | sweepPick
  | chunkReadIssue
  | doneEntryAppend
  | drainNormalEnd
  | holdAsserted
  | holdWithdrawn
  | helloTimerExpiry
  | ackTimerExpiry
  | holdTimerExpiry
  | relinkTimerExpiry
  | drainTimerExpiry
  | characterReceived (line : LineId) (ch : Character)
  | frameDiscarded (d : Delivery)
  | helloRoleConflict (session : Byte)
  | welcomeTaken (session : Byte) (result : WelcomeResult)
  | byeTaken (session : Byte) (reason : ByeReason)
  | ackTaken (session : Byte) (n : SeqNum)
  | nakTaken (session : Byte) (n : SeqNum)
  | helloTaken (session : Byte) (hello : HelloBody)
  | sequencedFrameTaken (session : Byte) (n : SeqNum) (body : SeqBody)
  | replicaByeTaken (session : Byte) (reason : ByeReason)
  | applyFrameStart
  | welcomeAcceptSend
  | linkFrameTransmitStart
  | replyFrameTransmitStart
  | responseTransmitStart
  | transmissionEnd (line : LineId)
  | divisorTakeEffect (line : LineId) (half : Half)
  | serviceFrameRejected (d : Delivery)
  | serviceFrameDropped
  | status (group : Byte)
  | readParam (number : Byte)
  | writeParam (number : Byte) (value : BitVec 16)
  | loadRegion (index : Byte) (base count : BitVec 32) (kind policy : Byte)
  | clearRegion (index : Byte)
  | readRegion (index : Byte)
  | startFull
  | startClean
  | stopNow
  | stopDrain
  | abort
  | resync (scope : ResyncScope)
  | readException
  | clearOverflow
  | readAlerts
  | ackAlerts (causes : Byte)
  | setAlertMask (causes : Byte)
  | readMarker
  | readCounters (number : Byte)
  | clearCounters (number : Byte)
  | setRole (role : Byte)
  | promote (force : Byte)
  | softReset
  | softResetComplete
  | lineSampledHigh (line : LineId)
  | characterBoundary
  | powerOnResetEnd (strapHigh : Bool)
deriving DecidableEq, Repr

end Sys2Proof
end

