-- ==== Sys2Proof/Machine/Bytes.lean ====
section
/-! DEFINITION. Byte order, byte-enable sets, addresses and check codes: the helpers every frame and every
response is built with (R71, R83, R108, R110, R188). -/
namespace Sys2Proof.Machine

/-- The lowest `n` bytes of a number, high byte first (00_scope.md, Byte order). -/
def beBytes : Nat → Nat → List Byte
  | 0, _ => []
  | n + 1, v => BitVec.ofNat 8 (v / 256 ^ n) :: beBytes n v

/-- The number that bytes spell, high byte first. -/
def ofBE (bs : List Byte) : Nat :=
  bs.foldl (fun acc b => acc * 256 + b.toNat) 0

/-- One byte, 0 clear and 1 set (R188). -/
def flagByte (b : Bool) : List Byte :=
  [if b then 1 else 0]

/-- A field that may be absent: a presence byte and then its bytes, which hold 0 when it is absent (R188). -/
def optBytes (width : Nat) : Option (List Byte) → List Byte
  | some bs => 1 :: bs
  | none => 0 :: List.replicate width 0

/-- How many bytes of the line a byte-enable set names (R2). -/
def enabledCount (be : ByteSet) : Nat :=
  (List.range 64).countP (fun k => be.getLsbD k)

/-- Every byte of the line enabled (R162, the writes of a PAGE frame). -/
def allEnabled : ByteSet := BitVec.allOnes 64

/-- A signal write is well formed when its set covers exactly one aligned group of four bytes (R10, R32). -/
def oneAlignedGroup (be : ByteSet) : Bool :=
  (List.range 16).any (fun k => be == (0xF#64 <<< (4 * k)))

/-- The page of a line: its byte address divided by 4,096 (R71). -/
def pageOf (addr : LineAddr) : Nat :=
  addr.toNat / 4096

/-- The byte address of line `k` of a chunk of a page: a chunk is four lines, a page sixteen chunks (R38). -/
def chunkLineAddr (page chunk k : Nat) : LineAddr :=
  BitVec.ofNat 40 (page * 4096 + chunk * 256 + k * 64)

/-- The four bytes of a marker in ascending address order, the first the highest in weight (R2, R110). -/
def markerValue (bytes : List Byte) : BitVec 32 :=
  BitVec.ofNat 32 (ofBE bytes)

/-- 64 zero bytes: the data of a READ answered ERROR (R86). -/
def zeroLine : List Byte :=
  List.replicate 64 0

/-- Addition held at a top value once it gets there (the counts of R37, R42, R50, R55, R143, R176). -/
def addSat (top a b : Nat) : Nat :=
  min top (a + b)

/-- Sequence a lies before sequence b when b - a modulo 65,536 is 1 to 32,767 (00_scope.md, Sequence arithmetic). -/
def seqBefore (a b : SeqNum) : Bool :=
  decide (1 ≤ (b - a).toNat ∧ (b - a).toNat ≤ 32767)

/-- One bit taken into the CRC-16 register; the generator is x^16 + x^12 + x^5 + 1 (R108). -/
def crc16Bit (reg : BitVec 16) (bit : Bool) : BitVec 16 :=
  if reg.msb ^^ bit then (reg <<< 1) ^^^ 0x1021#16 else reg <<< 1

/-- One byte taken into the CRC-16 register, most significant bit first (R108). -/
def crc16Byte (reg : BitVec 16) (b : Byte) : BitVec 16 :=
  [7, 6, 5, 4, 3, 2, 1, 0].foldl (fun r i => crc16Bit r (b.getLsbD i)) reg

/-- The CRC-16 of the mirror link and of the service line: register all ones, no inversion (R108, R186). -/
def crc16 (bs : List Byte) : BitVec 16 :=
  bs.foldl crc16Byte 0xFFFF#16

/-- A frame's two check bytes, high byte first (R108). -/
def crcBytes (bs : List Byte) : List Byte :=
  beBytes 2 (crc16 bs).toNat

/-- One bit taken into the CRC-32 register of the region digest (R83). -/
def crc32Bit (reg : BitVec 32) (bit : Bool) : BitVec 32 :=
  if reg.msb ^^ bit then (reg <<< 1) ^^^ 0x04C11DB7#32 else reg <<< 1

/-- One byte taken into the CRC-32 register, most significant bit first (R83). -/
def crc32Byte (reg : BitVec 32) (b : Byte) : BitVec 32 :=
  [7, 6, 5, 4, 3, 2, 1, 0].foldl (fun r i => crc32Bit r (b.getLsbD i)) reg

/-- The CRC-32 of the region digest: register all ones, the result inverted (R83). -/
def crc32 (bs : List Byte) : BitVec 32 :=
  ~~~(bs.foldl crc32Byte 0xFFFFFFFF#32)

end Sys2Proof.Machine
end

