-- ==== Sys2Proof/Machine/Params.lean ====
section
/-! DEFINITION. The twelve parameters of the service port: numbers, ranges, reset values and where each may be
written (R193, R194). -/
namespace Sys2Proof.Machine

/-- The parameters by their names; each one's number is its place in R194's table. -/
inductive Param where
  | window
  | catchupReserve
  | ackTimeout
  | retryLimit
  | helloTimeout
  | helloAttempts
  | relinkInterval
  | holdTimeout
  | drainTimeout
  | ackCoalesce
  | linkDivisor
  | serviceDivisor
deriving DecidableEq, Repr

/-- The parameter's number, 0 to 11 (R194). -/
def paramNumber : Param → Fin 12
  | .window => 0
  | .catchupReserve => 1
  | .ackTimeout => 2
  | .retryLimit => 3
  | .helloTimeout => 4
  | .helloAttempts => 5
  | .relinkInterval => 6
  | .holdTimeout => 7
  | .drainTimeout => 8
  | .ackCoalesce => 9
  | .linkDivisor => 10
  | .serviceDivisor => 11

/-- The parameter a number names; none above 11 (R193). -/
def paramOfNumber : Nat → Option Param
  | 0 => some .window
  | 1 => some .catchupReserve
  | 2 => some .ackTimeout
  | 3 => some .retryLimit
  | 4 => some .helloTimeout
  | 5 => some .helloAttempts
  | 6 => some .relinkInterval
  | 7 => some .holdTimeout
  | 8 => some .drainTimeout
  | 9 => some .ackCoalesce
  | 10 => some .linkDivisor
  | 11 => some .serviceDivisor
  | _ => none

/-- The least value of a parameter's range (R194). -/
def paramMin : Param → Nat
  | .window => 1
  | .catchupReserve => 0
  | .ackTimeout => 1
  | .retryLimit => 1
  | .helloTimeout => 10
  | .helloAttempts => 1
  | .relinkInterval => 100
  | .holdTimeout => 1
  | .drainTimeout => 1
  | .ackCoalesce => 1
  | .linkDivisor => 0
  | .serviceDivisor => 0

/-- The greatest value of a parameter's range (R194). -/
def paramMax : Param → Nat
  | .window => 128
  | .catchupReserve => 508
  | .ackTimeout => 1000
  | .retryLimit => 15
  | .helloTimeout => 1000
  | .helloAttempts => 8
  | .relinkInterval => 10000
  | .holdTimeout => 5000
  | .drainTimeout => 60000
  | .ackCoalesce => 15
  | .linkDivisor => 4095
  | .serviceDivisor => 4095

/-- A parameter's reset value (R194). -/
def paramReset : Param → Nat
  | .window => 32
  | .catchupReserve => 64
  | .ackTimeout => 20
  | .retryLimit => 4
  | .helloTimeout => 100
  | .helloAttempts => 3
  | .relinkInterval => 1000
  | .holdTimeout => 500
  | .drainTimeout => 5000
  | .ackCoalesce => 8
  | .linkDivisor => 26
  | .serviceDivisor => 325

/-- Whether WRITE_PARAM is carried out for the parameter only while the part's own state is OFF (R194). -/
def paramOffOnly : Param → Bool
  | .window => true
  | .catchupReserve => true
  | .ackCoalesce => true
  | .linkDivisor => true
  | .ackTimeout => false
  | .retryLimit => false
  | .helloTimeout => false
  | .helloAttempts => false
  | .relinkInterval => false
  | .holdTimeout => false
  | .drainTimeout => false
  | .serviceDivisor => false

/-- The fewest whole bytes that hold the parameter's range (R188, R194). -/
def paramBytes (p : Param) : Nat :=
  if paramMax p < 256 then 1 else 2

/-- Every parameter at its reset value, by number (R193). -/
def paramResets : Vector Nat 12 :=
  #v[32, 64, 20, 4, 100, 3, 1000, 500, 5000, 8, 26, 325]

end Sys2Proof.Machine
end

