-- ==== Sys2Proof/Machine/State.lean ====
section
/-! DEFINITION. Every piece of state the manual gives the part, as plain data, one record per block; INVENTORY.md
lists each with its rule. `State.reset` is the part under power-on reset, before the reset ends (R104, R144, R199). -/
namespace Sys2Proof.Machine

/-- No step of the part stops it with a fault: the manual gives every step an effect, so no meaning raises one. -/
inductive Fault where
deriving DecidableEq, Repr

/-- Raised by `exec` alone, for a command that has no meaning yet; safe, the model stops. -/
inductive Refusal where
  | notModelled (mnemonic : String)
deriving DecidableEq, Repr

/-- The part's role (R199). Position 0 is PRIMARY (R200). -/
inductive Role where
  | primary
  | replica
deriving DecidableEq, Repr

/-- Whether the part runs, or is held in power-on reset or by RST_N (R104, R144, R199). -/
inductive Phase where
  | powerOn
  | boardReset
  | running
deriving DecidableEq, Repr

/-! ### The region table (chapter 4) -/

/-- The completion policy of a MIRROR region (R70). -/
inductive Policy where
  | async
  | syncOpen
  | syncClosed
deriving DecidableEq, Repr

/-- The kind of a region; a policy is present for MIRROR only (R70). -/
inductive RegionKind where
  | mirror (policy : Policy)
  | guard
  | signal
deriving DecidableEq, Repr

/-- A valid region table entry (R70). -/
structure Region where
  base  : Nat
  count : Nat
  kind  : RegionKind
deriving DecidableEq, Repr

/-- The class of a host request, with the covering entry's index and, for MIRROR, its policy (R72). -/
inductive ReqClass where
  | pass
  | guard (index : Fin 32)
  | mirror (index : Fin 32) (policy : Policy)
  | signal (index : Fin 32)
deriving DecidableEq, Repr

/-! ### The memory path (chapter 5) -/

/-- The states of a tracking entry in use (R88). -/
inductive EntryState where
  | queued
  | inMemory
  | kept
  | answering
deriving DecidableEq, Repr

/-- How a write's response is decided when memory answers (R96, R99). -/
inductive CompletionRule where
  | asMemory
  | closed
  | held
deriving DecidableEq, Repr

/-- A decided response: status and, for a READ, the line's 64 bytes (R86). -/
structure HostAnswer where
  status : MemStatus
  data   : List Byte
deriving DecidableEq, Repr

/-- The fields of a request tracking entry in use (R88). The data of a WRITE is kept until its forward event.
`capture` names the journal entry that captured the write, by the model's entry number. -/
structure TrackEntry where
  req       : HostRequest
  cls       : Option ReqClass
  role      : Role
  pledge    : Bool
  unsettled : Bool
  capture   : Option Nat
  rule      : Option CompletionRule
  response  : Option HostAnswer
  state     : EntryState
deriving DecidableEq, Repr

/-- One of the 64 tracking entries: free, free with a stale memory-side tag, or in use (R88, R89, R103). A stale
mark remembers the source whose response may still come, and whether the entry was KEPT. -/
inductive TrackSlot where
  | free
  | stale (source : Byte) (kept : Bool)
  | used (e : TrackEntry)
deriving DecidableEq, Repr

/-- What a request of the part's own is for: line 0 to 3 of a chunk read, or of a frame's apply writes (R94, R101). -/
inductive OwnUse where
  | sweep (line : Fin 4)
  | apply (line : Fin 4)
deriving DecidableEq, Repr

/-- A request of the part's own (R87, R94). -/
structure OwnRequest where
  use  : OwnUse
  kind : ReqKind
  addr : LineAddr
  be   : ByteSet
  data : List Byte
deriving DecidableEq, Repr

/-- One of the eight internal tags: free, stale, or outstanding, waiting for its grant or granted (R94, R103). -/
inductive OwnTag where
  | free
  | stale
  | waiting (r : OwnRequest)
  | granted (r : OwnRequest)
deriving DecidableEq, Repr

/-- The two claimants of the memory side (R95). Position 0 is HOST. -/
inductive Claimant where
  | host
  | internal
deriving DecidableEq, Repr

/-- A request as the memory side sees it (R87). -/
structure MemRequest where
  kind   : ReqKind
  source : Byte
  tag    : Fin 64
  addr   : LineAddr
  be     : ByteSet
  data   : List Byte
deriving DecidableEq, Repr

/-- A response as the requester sees it (R86). -/
structure HostResponse where
  source : Byte
  tag    : Fin 64
  status : MemStatus
  data   : List Byte
deriving DecidableEq, Repr

/-- The memory path (R88, R93, R94, R95, R102, R103). `intake` holds the host requests presented and not yet taken, in the
order in which they arrived at the host side, the head first (R59, R90, R92). `memOut` and `hostOut` are the model's own:
the last request handed to the memory request channel and the last response passed back. -/
structure Path where
  intake      : List HostRequest
  table       : Vector TrackSlot 64
  hostQueue   : List (Fin 64)
  answerQueue : List (Fin 64)
  own         : Vector OwnTag 8
  ownQueue    : List (Fin 8)
  lastGranted : Claimant
  memOut      : Option MemRequest
  hostOut     : Option HostResponse
deriving DecidableEq, Repr

/-! ### The mirror journal and the held completion list (chapters 1 and 3) -/

/-- The kind of a journal entry with the fields R2 gives the kind. The bytes of a DATA entry are the enabled bytes
in ascending address order. -/
inductive EntryBody where
  | data (addr : LineAddr) (be : ByteSet) (bytes : List Byte) (region : Fin 32) (held : Bool)
  | mark (addr : LineAddr) (value : BitVec 32) (region : Fin 32)
  | page (page : Nat) (chunk : Fin 16) (region : Fin 32) (bytes : List Byte)
  | done (copied skipped : Nat)
deriving DecidableEq, Repr

/-- The state of a journal entry (R4): the capture reference stands while AWAITING, the sequence once SENT (R2). -/
inductive JState where
  | awaiting (capture : Fin 64)
  | ready
  | sent (seq : SeqNum)
deriving DecidableEq, Repr

/-- A journal entry. `id` is the model's own number for the entry, by which capture links and held records name it. -/
structure JEntry where
  id    : Nat
  body  : EntryBody
  state : JState
deriving DecidableEq, Repr

/-- An answered line read of a chunk: line, status and data (R8, R11). -/
structure LineAnswer where
  line   : Fin 4
  status : MemStatus
  data   : List Byte
deriving DecidableEq, Repr

/-- A chunk read reservation, with the answers so far in the order they came (R8, R41). -/
structure Reservation where
  page      : Nat
  chunk     : Fin 16
  region    : Fin 32
  cancelled : Bool
  answers   : List LineAnswer
deriving DecidableEq, Repr

/-- The mirror journal (R1, R6, R8, R16, R18). The send point is an index into `entries`; the list's length stands
for the new end. `nextId` is the model's own. -/
structure Journal where
  entries     : List JEntry
  sendPoint   : Nat
  lastSeq     : Option SeqNum
  reservation : Option Reservation
  pledges     : Nat
  nextId      : Nat
deriving DecidableEq, Repr

/-- The policy of a held record: SYNC_OPEN or SYNC_CLOSED (R56). -/
inductive SyncPolicy where
  | opened
  | closed
deriving DecidableEq, Repr

/-- A held record (R56). `memOkay` says whether the memory status is present, and then it is OKAY. -/
structure HeldRecord where
  source  : Byte
  tag     : Fin 64
  track   : Fin 64
  entry   : Nat
  policy  : SyncPolicy
  memOkay : Bool
deriving DecidableEq, Repr

/-! ### The mirror state machine, the dirty page map and the sweep (chapter 2) -/

/-- The mirror states, in the order of R28. -/
inductive MirrorState where
  | off
  | linking
  | streaming
  | catchup
  | tracking
  | draining
deriving DecidableEq, Repr

/-- The COPYING mark: its page, the next chunk index and the recopy flag (R33). -/
structure Copying where
  page   : Nat
  next   : Fin 16
  recopy : Bool
deriving DecidableEq, Repr

/-- A timer: `none` stopped, `some ms` running with the timeout it was started with (R115, R118, R122, R123, R49). -/
abbrev Timer := Option Nat

/-- The mirror state machine with the dirty page map and the sweep (R28, R29, R33, R37, R42, R43, R49, R50).
`marks` holds every marked page in ascending order, the COPYING page among them. -/
structure Mirror where
  state         : MirrorState
  catchupActive : Bool
  cleanArmed    : Bool
  marks         : List Nat
  copying       : Option Copying
  cursor        : Nat
  passCount     : Nat
  copied        : Nat
  skipped       : Nat
  drainCount    : Nat
  drainTimer    : Timer
deriving DecidableEq, Repr

/-! ### The link unit (chapter 6) -/

/-- The session states of a primary's link unit, in the order of R112. -/
inductive SessionState where
  | idle
  | helloWait
  | up
deriving DecidableEq, Repr

/-- The link-loss causes, in the order of R112. -/
inductive LossCause where
  | none
  | noAnswer
  | refusedRegions
  | refusedRevision
  | peerBye (reason : ByeReason)
  | cleanVoid
  | holdStuck
  | retryExhausted
  | protocol
deriving DecidableEq, Repr

/-- The link unit (R112). `hello` keeps the body of the attempt's HELLO, which every re-send repeats (R114). -/
structure Link where
  state       : SessionState
  session     : Byte
  helloSends  : Nat
  retry       : Nat
  cause       : LossCause
  control     : List LinkFrame
  hello       : Option HelloBody
  helloTimer  : Timer
  ackTimer    : Timer
  holdTimer   : Timer
  relinkTimer : Timer
deriving DecidableEq, Repr

/-! ### The replica apply unit (chapter 8) -/

/-- The replica states, in the order of R147. -/
inductive ReplicaState where
  | off
  | listening
  | session
deriving DecidableEq, Repr

/-- The consistency states, in the order of R147 and R167. -/
inductive Consistency where
  | unknown
  | catching
  | consistent
  | broken
deriving DecidableEq, Repr

/-- A frame of the apply queue (R155, R160). A DATA or PAGE frame keeps the index of the MIRROR entry that held its
page at its check (R156). -/
structure QueuedFrame where
  seq     : SeqNum
  body    : SeqBody
  region  : Option (Fin 32)
  started : Bool
deriving DecidableEq, Repr

/-- The apply writes in flight: how many are not yet answered, the line of the first answered ERROR, and the region
index kept for an apply fault (R147, R162, R168). -/
structure ApplyWork where
  remaining  : Nat
  firstError : Option LineAddr
  region     : Option (Fin 32)
deriving DecidableEq, Repr

/-- The marker register (R166). -/
structure Marker where
  valid  : Bool
  value  : BitVec 32
  region : Fin 32
deriving DecidableEq, Repr

/-- The replica apply unit (R147). -/
structure Replica where
  state          : ReplicaState
  session        : Byte
  welcomePending : Bool
  catchupFollows : Bool
  cleanStart     : Bool
  window         : Nat
  expected       : SeqNum
  ackPoint       : SeqNum
  retired        : Nat
  nakOutstanding : Bool
  nakDue         : Bool
  queue          : List QueuedFrame
  applying       : Option ApplyWork
  hold           : Bool
  replies        : List LinkFrame
  marker         : Marker
  consistency    : Consistency
deriving DecidableEq, Repr

/-! ### Exceptions and alerts (chapter 9) -/

/-- The exception kinds, in the order of R174. -/
inductive ExceptionKind where
  | guardRefused
  | replicaRefused
  | badSource
  | signalMalformed
  | sweepReadFault
  | applyFault
deriving DecidableEq, Repr

/-- An exception record (R174). -/
structure ExceptionRecord where
  kind   : ExceptionKind
  source : Option Byte
  addr   : LineAddr
  region : Option (Fin 32)
  count  : Nat
deriving DecidableEq, Repr

/-- The exception list with its overflow flag and lost count (R174, R176). -/
structure ExceptionList where
  records  : List ExceptionRecord
  overflow : Bool
  lost     : Nat
deriving DecidableEq, Repr

/-- The alert unit: the pending set and the mask set, bit n for cause n (R181, R182, R183, R188). -/
structure Alerts where
  pending : Byte
  mask    : Byte
deriving DecidableEq, Repr

/-! ### The service port and the serial lines (chapters 7 and 10) -/

/-- The status codes of a response, by their codes 0 to 11 (R188). -/
inductive Status where
  | ok
  | busy
  | state
  | range
  | overlap
  | capacity
  | unknownCommand
  | frameError
  | timeout
  | aborted
  | linkLost
  | notConsistent
deriving DecidableEq, Repr

/-- A built response (R186). `divisorDue` marks the response of the WRITE_PARAM whose service divisor becomes due at
the end of this response's transmission (R136). -/
structure SvcResponse where
  code       : Byte
  status     : Status
  body       : List Byte
  divisorDue : Bool
deriving DecidableEq, Repr

/-- The commands that hold the command slot (R190). -/
inductive SlotHolder where
  | stopDrain
  | softReset
deriving DecidableEq, Repr

/-- The service port: the command slot and the response list (R189, R190). -/
structure Port where
  slot      : Option SlotHolder
  responses : List SvcResponse
deriving DecidableEq, Repr

/-- What a transmitter holds (R137). -/
inductive TxContent where
  | link (f : LinkFrame)
  | response (r : SvcResponse)
deriving DecidableEq, Repr

/-- A frame in a transmitter: its content, how many of its characters have begun, and whether the transmitter is
paused under HOLD at a character boundary of it (R137, R138). No event lies between the characters of a response, so all of
them count as begun from its start (notes/assumptions/27.md). -/
structure Tx where
  content : TxContent
  begun   : Nat
  paused  : Bool
deriving DecidableEq, Repr

/-- The character layer of one line (R136, R137, R139, R140, R141). `collected` is `none` in HUNT and holds the bytes
of the frame under collection in IN_FRAME. `delivered` holds what the receiver delivered and the line's owner has not yet
handled, in the order in which the frames ended on the line (R142). -/
structure Line where
  collected  : Option (List Byte)
  waitHigh   : Bool
  delivered  : List Delivery
  tx         : Option Tx
  txDivisor  : Nat
  rxDivisor  : Nat
  txPending  : Option Nat
  rxPending  : Option Nat
  due        : Bool
deriving DecidableEq, Repr

/-! ### The whole part -/

/-- The state of the part. `pending` is the queue of commands that wait, first in, first out. `holdIn` is the level
at the HOLD connection as the outside last gave it (true: asserted), which a primary reads (R138). -/
structure State where
  pending    : List Instr
  phase      : Phase
  role       : Role
  holdIn     : Bool
  regions    : Vector (Option Region) 32
  params     : Vector Nat 12
  counters   : Vector Nat 29
  path       : Path
  journal    : Journal
  held       : List HeldRecord
  mirror     : Mirror
  link       : Link
  replica    : Replica
  linkLine   : Line
  svcLine    : Line
  exceptions : ExceptionList
  alerts     : Alerts
  port       : Port
deriving DecidableEq, Repr

/-- The outcome of a step. -/
abbrev Result := Host.Outcome State Fault Refusal

/-! ### Reset values -/

/-- The memory path after power-on reset (R89, R95, R104). -/
def Path.reset : Path :=
  { intake := [], table := Vector.replicate 64 .free, hostQueue := [], answerQueue := [], own := Vector.replicate 8 .free,
    ownQueue := [], lastGranted := .internal, memOut := none, hostOut := none }

/-- The journal after reset (R25). -/
def Journal.reset : Journal :=
  { entries := [], sendPoint := 0, lastSeq := none, reservation := none, pledges := 0, nextId := 0 }

/-- The mirror state machine after reset (R28, R29, R33, R34, R50). -/
def Mirror.reset : Mirror :=
  { state := .off, catchupActive := false, cleanArmed := false, marks := [], copying := none, cursor := 0,
    passCount := 0, copied := 0, skipped := 0, drainCount := 0, drainTimer := none }

/-- The link unit after power-on reset (R112). -/
def Link.reset : Link :=
  { state := .idle, session := 0, helloSends := 0, retry := 0, cause := .none, control := [], hello := none,
    helloTimer := none, ackTimer := none, holdTimer := none, relinkTimer := none }

/-- The marker register after power-on reset (R166). -/
def Marker.reset : Marker :=
  { valid := false, value := 0, region := 0 }

/-- The replica apply unit after power-on reset (R172); the session window reads 128 outside a session (R147). -/
def Replica.reset : Replica :=
  { state := .off, session := 0, welcomePending := false, catchupFollows := false, cleanStart := false, window := 128,
    expected := 0, ackPoint := 0, retired := 0, nakOutstanding := false, nakDue := false, queue := [],
    applying := none, hold := false, replies := [], marker := Marker.reset, consistency := .unknown }

/-- A line's character layer after reset, with its reset divisor: HUNT, waiting for a high line, no frame (R144). -/
def Line.reset (divisor : Nat) : Line :=
  { collected := none, waitHigh := true, delivered := [], tx := none, txDivisor := divisor, rxDivisor := divisor,
    txPending := none, rxPending := none, due := false }

/-- The exception list after power-on reset (R180). -/
def ExceptionList.reset : ExceptionList :=
  { records := [], overflow := false, lost := 0 }

/-- The alert unit after reset: nothing pending, every cause masked (R185). -/
def Alerts.reset : Alerts :=
  { pending := 0, mask := 0xFF }

/-- The service port after reset (R204). -/
def Port.reset : Port :=
  { slot := none, responses := [] }

/-- The part right after POWER_ON_RESET, still held in reset: the ROLE strap is not yet sampled, so the role shown is
a DESIGN CHOICE (notes/assumptions/2.md), as is the level at the HOLD connection (notes/assumptions/3.md). -/
def State.reset : State :=
  { pending := [], phase := .powerOn, role := .primary, holdIn := false, regions := Vector.replicate 32 none,
    params := paramResets, counters := Vector.replicate 29 0, path := Path.reset, journal := Journal.reset, held := [],
    mirror := Mirror.reset, link := Link.reset, replica := Replica.reset, linkLine := Line.reset 26,
    svcLine := Line.reset 325, exceptions := ExceptionList.reset, alerts := Alerts.reset, port := Port.reset }

/-! ### One update per block -/

/-- `s` with another region table. -/
def State.withRegions (s : State) (x : Vector (Option Region) 32) : State := { s with regions := x }
/-- `s` with other parameters. -/
def State.withParams (s : State) (x : Vector Nat 12) : State := { s with params := x }
/-- `s` with other counters. -/
def State.withCounters (s : State) (x : Vector Nat 29) : State := { s with counters := x }
/-- `s` with another role. -/
def State.withRole (s : State) (x : Role) : State := { s with role := x }
/-- `s` with another level at the HOLD connection. -/
def State.withHoldIn (s : State) (x : Bool) : State := { s with holdIn := x }
/-- `s` with another memory path. -/
def State.withPath (s : State) (x : Path) : State := { s with path := x }
/-- `s` with another journal. -/
def State.withJournal (s : State) (x : Journal) : State := { s with journal := x }
/-- `s` with another held completion list. -/
def State.withHeld (s : State) (x : List HeldRecord) : State := { s with held := x }
/-- `s` with another mirror state machine. -/
def State.withMirror (s : State) (x : Mirror) : State := { s with mirror := x }
/-- `s` with another link unit. -/
def State.withLink (s : State) (x : Link) : State := { s with link := x }
/-- `s` with another replica apply unit. -/
def State.withReplica (s : State) (x : Replica) : State := { s with replica := x }
/-- `s` with another mirror-link character layer. -/
def State.withLinkLine (s : State) (x : Line) : State := { s with linkLine := x }
/-- `s` with another service-line character layer. -/
def State.withSvcLine (s : State) (x : Line) : State := { s with svcLine := x }
/-- `s` with another exception list. -/
def State.withExceptions (s : State) (x : ExceptionList) : State := { s with exceptions := x }
/-- `s` with another alert unit. -/
def State.withAlerts (s : State) (x : Alerts) : State := { s with alerts := x }
/-- `s` with another service port. -/
def State.withPort (s : State) (x : Port) : State := { s with port := x }

end Sys2Proof.Machine
end

