-- ==== Sys2Proof/Machine/Frames.lean ====
section
/-! DEFINITION. Mirror-link frames and service frames as bytes and as characters: how a frame is built and sent, the checks
of a delivered frame that do not depend on the receiver's state, and the command that a service frame carries (R107 to
R111, R134, R137, R186, R187, R195 to R201). -/
namespace Sys2Proof.Machine

/-! ### Mirror-link frames -/

/-- The causes a mirror-link frame is discarded under (R111, R131, R173), in the order of their counters (R198). -/
inductive DiscardCause where
  | crc
  | type
  | length
  | body
  | session
  | state
  | role
  | ahead
  | duplicate
  | overrun
  | region
  | flushed
deriving DecidableEq, Repr

/-- A WELCOME result's code (R110). -/
def welcomeCode : WelcomeResult → Byte
  | .accept => 0
  | .refuseRegions => 1
  | .refuseRevision => 2

/-- The WELCOME result a code names, if it names one (R110, R111). -/
def welcomeOfCode (b : Byte) : Option WelcomeResult :=
  if b = 0 then some .accept else if b = 1 then some .refuseRegions
  else if b = 2 then some .refuseRevision else none

/-- A BYE reason's code (R110). -/
def byeCode : ByeReason → Byte
  | .stopped => 0
  | .protocol => 1
  | .applyFault => 2
  | .promoted => 3
  | .roleConflict => 4

/-- The BYE reason a code names, if it names one (R110, R111). -/
def byeOfCode (b : Byte) : Option ByeReason :=
  if b = 0 then some .stopped else if b = 1 then some .protocol else if b = 2 then some .applyFault
  else if b = 3 then some .promoted else if b = 4 then some .roleConflict else none

/-- The type code of a frame (R109). -/
def frameType : FrameBody → Byte
  | .hello _ => 1
  | .welcome _ => 2
  | .bye _ => 3
  | .seq _ (.data _ _ _) => 4
  | .seq _ (.mark _ _) => 5
  | .seq _ (.page _ _ _) => 6
  | .seq _ (.done _ _) => 7
  | .ack _ => 8
  | .nak _ => 9

/-- The sequence field of a frame; 0 for HELLO, WELCOME and BYE (R107). -/
def frameSeq : FrameBody → SeqNum
  | .hello _ => 0
  | .welcome _ => 0
  | .bye _ => 0
  | .seq n _ => n
  | .ack n => n
  | .nak n => n

/-- The body of a sequenced frame (R110). -/
def seqBodyBytes : SeqBody → List Byte
  | .data addr be bytes => beBytes 5 addr.toNat ++ beBytes 8 be.toNat ++ bytes
  | .mark value region => beBytes 4 value.toNat ++ beBytes 1 region.val
  | .page page chunk bytes => beBytes 4 page.toNat ++ beBytes 1 chunk.val ++ bytes
  | .done copied skipped => beBytes 4 copied.toNat ++ beBytes 4 skipped.toNat

/-- The body of a frame (R110). -/
def frameBodyBytes : FrameBody → List Byte
  | .hello b => beBytes 4 b.digest.toNat ++ [b.flags, b.window, b.revision]
  | .welcome r => [welcomeCode r]
  | .bye r => [byeCode r]
  | .seq _ b => seqBodyBytes b
  | .ack _ => []
  | .nak _ => []

/-- A frame's bytes before its check code: header and body (R107). -/
def frameHead (f : LinkFrame) : List Byte :=
  [frameType f.body, f.session] ++ beBytes 2 (frameSeq f.body).toNat
    ++ beBytes 2 (frameBodyBytes f.body).length ++ frameBodyBytes f.body

/-- A frame as it travels: header, body and CRC-16 (R107, R108). -/
def encodeLink (f : LinkFrame) : List Byte :=
  frameHead f ++ crcBytes (frameHead f)

/-- What is wrong with the fields of a HELLO: its window is 1 to 128 and its session number 1 to 255 (R111, check 4). -/
def helloDefect (session : Byte) (b : HelloBody) : Option DiscardCause :=
  if session = 0 ∨ b.window = 0 ∨ 128 < b.window.toNat then some .body else none

/-- What is wrong with the fields of a sequenced frame (R111, checks 3 and 4). -/
def seqDefect : SeqBody → Option DiscardCause
  | .data addr be bytes =>
    if be = 0 ∨ bytes.length ≠ enabledCount be then some .length
    else if addr.toNat % 64 ≠ 0 then some .body else none
  | .mark _ _ => none
  | .page _ _ bytes => if bytes.length ≠ 256 then some .length else none
  | .done _ _ => none

/-- Checks 3 and 4 of R111 on the body of a frame whose type code is `t`. -/
def parseBody (t session : Byte) (n : SeqNum) (body : List Byte) : Except DiscardCause FrameBody :=
  if t = 1 then
    if body.length ≠ 7 then .error .length
    else
      let b : HelloBody := { digest := BitVec.ofNat 32 (ofBE (body.take 4)), flags := body.getD 4 0,
                             window := body.getD 5 0, revision := body.getD 6 0 }
      match helloDefect session b with
      | some c => .error c
      | none => .ok (.hello b)
  else if t = 2 then
    if body.length ≠ 1 then .error .length
    else match welcomeOfCode (body.getD 0 0) with
      | some r => .ok (.welcome r)
      | none => .error .body
  else if t = 3 then
    if body.length ≠ 1 then .error .length
    else match byeOfCode (body.getD 0 0) with
      | some r => .ok (.bye r)
      | none => .error .body
  else if t = 4 then
    let addr : LineAddr := BitVec.ofNat 40 (ofBE (body.take 5))
    let be : ByteSet := BitVec.ofNat 64 (ofBE ((body.drop 5).take 8))
    if body.length < 14 ∨ 77 < body.length then .error .length
    else match seqDefect (.data addr be (body.drop 13)) with
      | some c => .error c
      | none => .ok (.seq n (.data addr be (body.drop 13)))
  else if t = 5 then
    if body.length ≠ 5 then .error .length
    else if h : (body.getD 4 0).toNat < 32 then
      .ok (.seq n (.mark (BitVec.ofNat 32 (ofBE (body.take 4))) ⟨(body.getD 4 0).toNat, h⟩))
    else .error .body
  else if t = 6 then
    if body.length ≠ 261 then .error .length
    else if ofBE (body.take 4) < 268435456 then
      if h : (body.getD 4 0).toNat < 16 then
        .ok (.seq n (.page (BitVec.ofNat 28 (ofBE (body.take 4))) ⟨(body.getD 4 0).toNat, h⟩ (body.drop 5)))
      else .error .body
    else .error .body
  else if t = 7 then
    if body.length ≠ 8 then .error .length
    else .ok (.seq n (.done (BitVec.ofNat 32 (ofBE (body.take 4))) (BitVec.ofNat 32 (ofBE (body.drop 4)))))
  else if t = 8 then
    if body.length ≠ 0 then .error .length else .ok (.ack n)
  else if t = 9 then
    if body.length ≠ 0 then .error .length else .ok (.nak n)
  else .error .type

/-- Checks 1 to 4 of R111 on a delivered complete frame, in their order: CRC, TYPE, LENGTH, BODY. -/
def parseLink (bs : List Byte) : Except DiscardCause LinkFrame :=
  if crcBytes (bs.take (bs.length - 2)) ≠ bs.drop (bs.length - 2) then .error .crc
  else
    match bs.take (bs.length - 2) with
    | t :: session :: q1 :: q0 :: l1 :: l0 :: body =>
      if t = 0 ∨ 9 < t.toNat then .error .type
      else if body.length ≠ ofBE [l1, l0] then .error .length
      else
        match parseBody t session (BitVec.ofNat 16 (ofBE [q1, q0])) body with
        | .ok b => .ok { session := session, body := b }
        | .error c => .error c
    | _ => .error .length

/-- A frame whose fields are those R109 and R110 define. -/
def frameWf (f : LinkFrame) : Bool :=
  match f.body with
  | .hello b => helloDefect f.session b == none
  | .seq _ b => seqDefect b == none
  | .welcome _ => true
  | .bye _ => true
  | .ack _ => true
  | .nak _ => true

/-- The mirror-link frame that a delivery carries, if checks 1 to 4 of R111 pass; an oversize header carries none. -/
def linkFrameOf : Delivery → Option LinkFrame
  | .oversize _ => none
  | .frame bs =>
    match parseLink bs with
    | .ok f => some f
    | .error _ => none

/-! ### Service frames -/

/-- A status byte's code (R188). -/
def statusCode : Status → Byte
  | .ok => 0
  | .busy => 1
  | .state => 2
  | .range => 3
  | .overlap => 4
  | .capacity => 5
  | .unknownCommand => 6
  | .frameError => 7
  | .timeout => 8
  | .aborted => 9
  | .linkLost => 10
  | .notConsistent => 11

/-- A response's bytes before its check code (R186). -/
def responseHead (r : SvcResponse) : List Byte :=
  [r.code, statusCode r.status] ++ beBytes 1 r.body.length ++ r.body

/-- A response as it travels (R186). -/
def encodeResponse (r : SvcResponse) : List Byte :=
  responseHead r ++ crcBytes (responseHead r)

/-- The body lengths that the command table allows; RESYNC's follows its scope byte (R187, check 4; R196). -/
def commandLengthOk (code : Nat) (body : List Byte) : Bool :=
  match code with
  | 1 => body.length == 1
  | 2 => body.length == 1
  | 3 => body.length == 3
  | 4 => body.length == 11
  | 5 => body.length == 1
  | 6 => body.length == 1
  | 7 => body.length == 1
  | 8 => body.length == 1
  | 9 => body.length == 0
  | 10 =>
    match body with
    | [] => false
    | scope :: _ =>
      if scope = 0 then body.length == 9 else if scope = 1 then body.length == 2
      else if scope = 2 then body.length == 1
      else body.length == 1 || body.length == 2 || body.length == 9
  | 11 => body.length == 0
  | 12 => body.length == 0
  | 13 => body.length == 0
  | 14 => body.length == 1
  | 15 => body.length == 1
  | 16 => body.length == 0
  | 17 => body.length == 1
  | 18 => body.length == 1
  | 19 => body.length == 1
  | 20 => body.length == 1
  | 21 => body.length == 0
  | _ => false

/-- What R187 makes of a delivered service frame: a rejection with its status and response code, or a command. -/
inductive ServiceVerdict where
  | reject (status : Status) (code : Byte)
  | command (code : Nat) (body : List Byte)
deriving DecidableEq, Repr

/-- The checks of R187 in their order: oversize header, CRC, command code, body length. -/
def serviceVerdict : Delivery → ServiceVerdict
  | .oversize _ => .reject .frameError 255
  | .frame bs =>
    if crcBytes (bs.take (bs.length - 2)) ≠ bs.drop (bs.length - 2) then .reject .frameError 255
    else
      match bs.take (bs.length - 2) with
      | c :: _ :: body =>
        if c = 0 ∨ 21 < c.toNat then
          .reject .unknownCommand (if c.toNat < 128 then c + 128#8 else 254)
        else if commandLengthOk c.toNat body then .command c.toNat body
        else .reject .frameError 255
      | _ => .reject .frameError 255

/-- The scope that a RESYNC's body gives: a scope byte, then base page and count for PAGES or an index for REGION (R196). -/
def readScope (body : List Byte) : ResyncScope :=
  if body.getD 0 0 = 0 then
    .pages (BitVec.ofNat 32 (ofBE ((body.drop 1).take 4))) (BitVec.ofNat 32 (ofBE ((body.drop 5).take 4)))
  else if body.getD 0 0 = 1 then .region (body.getD 1 0)
  else if body.getD 0 0 = 2 then .all
  else .other (body.getD 0 0)

/-- The command that a command code and a body of an allowed length spell, its values read from the body high byte first
(R192 to R201). A START or STOP whose option byte names neither form spells none (R195). -/
def commandOf (code : Nat) (body : List Byte) : Option Instr :=
  let b := body.getD 0 0
  match code with
  | 1 => some (.status b)
  | 2 => some (.readParam b)
  | 3 => some (.writeParam b (BitVec.ofNat 16 (ofBE ((body.drop 1).take 2))))
  | 4 => some (.loadRegion b (BitVec.ofNat 32 (ofBE ((body.drop 1).take 4)))
      (BitVec.ofNat 32 (ofBE ((body.drop 5).take 4))) (body.getD 9 0) (body.getD 10 0))
  | 5 => some (.clearRegion b)
  | 6 => some (.readRegion b)
  | 7 => if b = 0 then some .startFull else if b = 1 then some .startClean else none
  | 8 => if b = 0 then some .stopNow else if b = 1 then some .stopDrain else none
  | 9 => some .abort
  | 10 => some (.resync (readScope body))
  | 11 => some .readException
  | 12 => some .clearOverflow
  | 13 => some .readAlerts
  | 14 => some (.ackAlerts b)
  | 15 => some (.setAlertMask b)
  | 16 => some .readMarker
  | 17 => some (.readCounters b)
  | 18 => some (.clearCounters b)
  | 19 => some (.setRole b)
  | 20 => some (.promote b)
  | 21 => some .softReset
  | _ => none

/-- The command that a delivery on the service line carries, if it passes the checks of R187 and spells one. -/
def serviceCommand (d : Delivery) : Option Instr :=
  match serviceVerdict d with
  | .command code body => commandOf code body
  | .reject _ _ => none

/-- The body of a RESYNC by its scope (R196). -/
def scopeBytes : ResyncScope → List Byte
  | .pages base count => 0 :: beBytes 4 base.toNat ++ beBytes 4 count.toNat
  | .region index => [1, index]
  | .all => [2]
  | .other scope => [scope]

/-- The code and the body with which the board controller sends a command; the steps that are no command have none (10.3;
R192 to R201). -/
def commandBody : Instr → Option (Byte × List Byte)
  | .status group => some (1, [group])
  | .readParam number => some (2, [number])
  | .writeParam number value => some (3, number :: beBytes 2 value.toNat)
  | .loadRegion index base count kind policy =>
    some (4, index :: beBytes 4 base.toNat ++ beBytes 4 count.toNat ++ [kind, policy])
  | .clearRegion index => some (5, [index])
  | .readRegion index => some (6, [index])
  | .startFull => some (7, [0])
  | .startClean => some (7, [1])
  | .stopNow => some (8, [0])
  | .stopDrain => some (8, [1])
  | .abort => some (9, [])
  | .resync scope => some (10, scopeBytes scope)
  | .readException => some (11, [])
  | .clearOverflow => some (12, [])
  | .readAlerts => some (13, [])
  | .ackAlerts causes => some (14, [causes])
  | .setAlertMask causes => some (15, [causes])
  | .readMarker => some (16, [])
  | .readCounters number => some (17, [number])
  | .clearCounters number => some (18, [number])
  | .setRole role => some (19, [role])
  | .promote force => some (20, [force])
  | .softReset => some (21, [])
  | .powerOnReset => none
  | .boardResetAssert => none
  | .boardResetRelease _ => none
  | .hostRequestTake _ => none
  | .memorySideGrant => none
  | .memoryResponse _ _ _ _ => none
  | .hostResponsePassBack => none
  | .sweepPick => none
  | .chunkReadIssue => none
  | .doneEntryAppend => none
  | .drainNormalEnd => none
  | .holdAsserted => none
  | .holdWithdrawn => none
  | .helloTimerExpiry => none
  | .ackTimerExpiry => none
  | .holdTimerExpiry => none
  | .relinkTimerExpiry => none
  | .drainTimerExpiry => none
  | .characterReceived _ _ => none
  | .frameDiscarded _ => none
  | .helloRoleConflict _ => none
  | .welcomeTaken _ _ => none
  | .byeTaken _ _ => none
  | .ackTaken _ _ => none
  | .nakTaken _ _ => none
  | .helloTaken _ _ => none
  | .sequencedFrameTaken _ _ _ => none
  | .replicaByeTaken _ _ => none
  | .applyFrameStart => none
  | .welcomeAcceptSend => none
  | .linkFrameTransmitStart => none
  | .replyFrameTransmitStart => none
  | .responseTransmitStart => none
  | .transmissionEnd _ => none
  | .divisorTakeEffect _ _ => none
  | .serviceFrameRejected _ => none
  | .serviceFrameDropped => none
  | .softResetComplete => none
  | .lineSampledHigh _ => none
  | .characterBoundary => none
  | .powerOnResetEnd _ => none

/-- The frame in which the board controller sends a command: code, body length, body and CRC-16 (10.1, R186). -/
def commandFrame (i : Instr) : Option (List Byte) :=
  (commandBody i).map (fun cb =>
    let front := cb.1 :: beBytes 1 cb.2.length ++ cb.2
    front ++ crcBytes front)

/-! ### Characters -/

/-- The highs among a character's data bits and its mark bit (R134). -/
def Character.highs (c : Character) : Nat :=
  (List.range 8).countP (fun k => c.data.getLsbD k) + c.mark.toNat

/-- The data, mark and parity bits hold an even number of highs (R134, R139). -/
def Character.parityOk (c : Character) : Bool :=
  (Character.highs c + c.parity.toNat) % 2 == 0

/-- The character in which a byte is sent: its parity bit makes the number of highs even and its stop bit is high (R134). -/
def sentCharacter (mark : Bool) (b : Byte) : Character :=
  let c : Character := { data := b, mark := mark, parity := false, stop := true }
  { c with parity := Character.highs c % 2 == 1 }

/-- The characters in which a frame is sent: byte 0 in a marked one and every later byte in an unmarked one (R107, R137,
R186). -/
def sentCharacters : List Byte → List Character
  | [] => []
  | b :: bs => sentCharacter true b :: bs.map (sentCharacter false)

/-- The twelve bits of a character in the order of the line, true for high: start bit, data bits from the least significant,
mark bit, parity bit, stop bit (R134). -/
def Character.bits (c : Character) : List Bool :=
  false :: (List.range 8).map (fun k => c.data.getLsbD k) ++ [c.mark, c.parity, c.stop]

/-- The bytes of what a transmitter holds (R107, R186). -/
def txBytes : TxContent → List Byte
  | .link f => encodeLink f
  | .response r => encodeResponse r

/-- The characters of the frame that a transmitter holds (R137). -/
def Tx.characters (t : Tx) : List Character :=
  sentCharacters (txBytes t.content)

/-- More of the frame is to send at the end of the character last begun (R138). -/
def Tx.moreToSend (t : Tx) : Bool :=
  decide (t.begun < t.characters.length)

/-- The characters of its frame that a transmitter has put on the line, the last of them still on it unless the transmitter
is paused, when the line is high (R134, R137, R138). -/
def Tx.sent (t : Tx) : List Character :=
  t.characters.take t.begun

/-- A frame begins in a transmitter. On the mirror link its first character starts, and the later ones follow at its character
boundaries (R137, R138); the characters of a response follow one another with no event between, so all count as begun
(R134; notes/assumptions/27.md). -/
def beginTx (c : TxContent) : Option Tx :=
  some { content := c, paused := false, begun := match c with
      | .link _ => 1
      | .response _ => (txBytes c).length }

end Sys2Proof.Machine
end

