-- ==== Sys2Proof/Machine/Flags.lean ====
section
/-! DEFINITION. Alert causes, counters, parameters in force and the ALERT_N level: the flags and counts that steps
raise (R55, R133, R143, R173, R181, R183, R189, R198). -/
namespace Sys2Proof.Machine

/-- The eight alert causes (R181). -/
inductive AlertCause where
  | linkLost
  | linkUp
  | catchupDone
  | drainEnd
  | exception
  | listOverflow
  | markApplied
  | applyFault
deriving DecidableEq, Repr

/-- The bit of a cause in a cause set: weight 2^n for cause n (R181, R188). -/
def causeBit : AlertCause → Byte
  | .linkLost => 0x01
  | .linkUp => 0x02
  | .catchupDone => 0x04
  | .drainEnd => 0x08
  | .exception => 0x10
  | .listOverflow => 0x20
  | .markApplied => 0x40
  | .applyFault => 0x80

/-- An event sets a cause pending (R182). -/
def Alerts.set (c : AlertCause) (a : Alerts) : Alerts :=
  { a with pending := a.pending ||| causeBit c }

/-- ALERT_N is driven low while a cause is pending and not masked (R183). -/
def Alerts.drivenLow (a : Alerts) : Bool :=
  a.pending &&& ~~~a.mask != 0

/-- An event sets a cause pending (R182). -/
def setAlert (c : AlertCause) (s : State) : State :=
  s.withAlerts (s.alerts.set c)

/-- The five counts of a line, in the order of R143 and R198. -/
inductive LineCount where
  | characters
  | delivered
  | abandoned
  | parity
  | framing
deriving DecidableEq, Repr

/-- The counters of READ_COUNTERS (R198). -/
inductive Counter where
  | markersDropped
  | uncapturedWrites
  | relinkAttempts
  | framesResent
  | pagesCopied
  | pagesSkipped
  | discarded (c : DiscardCause)
  | line (l : LineId) (k : LineCount)
  | serviceDropped
deriving DecidableEq, Repr

/-- A counter's number (R198). -/
def counterNumber : Counter → Fin 29
  | .markersDropped => 0
  | .uncapturedWrites => 1
  | .relinkAttempts => 2
  | .framesResent => 3
  | .pagesCopied => 4
  | .pagesSkipped => 5
  | .discarded .crc => 6
  | .discarded .type => 7
  | .discarded .length => 8
  | .discarded .body => 9
  | .discarded .session => 10
  | .discarded .state => 11
  | .discarded .role => 12
  | .discarded .ahead => 13
  | .discarded .duplicate => 14
  | .discarded .overrun => 15
  | .discarded .region => 16
  | .discarded .flushed => 17
  | .line .link .characters => 18
  | .line .link .delivered => 19
  | .line .link .abandoned => 20
  | .line .link .parity => 21
  | .line .link .framing => 22
  | .line .service .characters => 23
  | .line .service .delivered => 24
  | .line .service .abandoned => 25
  | .line .service .parity => 26
  | .line .service .framing => 27
  | .serviceDropped => 28

/-- A counter goes up by `k`, staying at 2^32 - 1 (R198). -/
def bumpBy (k : Nat) (c : Counter) (s : State) : State :=
  s.withCounters (s.counters.set (counterNumber c)
    (addSat Config.countTop (s.counters[counterNumber c]) k))

/-- A counter goes up by one (R198). -/
def bump (c : Counter) (s : State) : State :=
  bumpBy 1 c s

/-- A frame is discarded and counted under a cause, with no answer (R111). -/
def discard (c : DiscardCause) (s : State) : State :=
  bump (.discarded c) s

/-- The value last written to a parameter (R193). -/
def param (p : Param) (s : State) : Nat :=
  s.params[paramNumber p]

/-- A timer started with the value of its parameter (R133). -/
def startedTimer (p : Param) (s : State) : Timer :=
  some (param p s)

/-- The smaller of the coalesce count and the session window (R164). R194 lets a written coalesce count take effect at the
next session accepted, and no rule gives a limit in force outside a session: there STATUS shows the smaller of the count as
last written and 128, which is the model's choice (DESIGN CHOICE, notes/assumptions/34.md). -/
def coalesceLimit (s : State) : Nat :=
  min (param .ackCoalesce s) s.replica.window

end Sys2Proof.Machine
end

