-- ==== Sys2Proof/Machine/Operands.lean ====
section
/-! DEFINITION. Operand forms: the region table's lookup and classification, its digest and totals, and the value
ranges of the service commands' bodies (R70, R72, R77, R78, R83, R195 to R201). -/
namespace Sys2Proof.Machine

/-- The pages from the base page to the base page plus the page count less one (R70). -/
def Region.covers (r : Region) (page : Nat) : Bool :=
  decide (r.base ≤ page ∧ page < r.base + r.count)

/-- Two regions share a page (R70, R77). -/
def Region.overlaps (r q : Region) : Bool :=
  decide (r.base < q.base + q.count ∧ q.base < r.base + r.count)

/-- A region of kind MIRROR (R70). -/
def Region.isMirror (r : Region) : Bool :=
  match r.kind with
  | .mirror _ => true
  | .guard => false
  | .signal => false

/-- A region whose change R78 permits only in OFF: MIRROR or SIGNAL. -/
def Region.isProtected (r : Region) : Bool :=
  match r.kind with
  | .mirror _ => true
  | .guard => false
  | .signal => true

/-- The pages of a region in page order (R70). -/
def Region.pages (r : Region) : List Nat :=
  List.range' r.base r.count

/-- The indices of the region table, ascending (R70). -/
def regionIndices : List (Fin 32) :=
  List.finRange 32

/-- Whether a table position holds a valid entry that covers the page. -/
def coversAt (regions : Vector (Option Region) 32) (page : Nat) (i : Fin 32) : Bool :=
  match regions[i] with
  | some r => r.covers page
  | none => false

/-- The valid entry that covers a page: its index and its fields (R71). -/
def regionAt (regions : Vector (Option Region) 32) (page : Nat) : Option (Fin 32 × Region) :=
  match regionIndices.find? (coversAt regions page) with
  | some i => (regions[i]).map (fun r => (i, r))
  | none => none

/-- The index of the valid MIRROR entry that holds a page (R38, R54, R156). -/
def mirrorRegionAt (regions : Vector (Option Region) 32) (page : Nat) : Option (Fin 32) :=
  match regionAt regions page with
  | some (i, r) => if r.isMirror then some i else none
  | none => none

/-- The class of a request whose line lies in a page (R72). -/
def classify (regions : Vector (Option Region) 32) (page : Nat) : ReqClass :=
  match regionAt regions page with
  | none => .pass
  | some (i, r) =>
    match r.kind with
    | .mirror p => .mirror i p
    | .guard => .guard i
    | .signal => .signal i

/-- The valid MIRROR entries in ascending index order (R83). -/
def mirrorRegions (regions : Vector (Option Region) 32) : List Region :=
  regions.toList.filterMap (fun r => r.filter Region.isMirror)

/-- The mirror page total: the page counts of the valid MIRROR entries (R70). -/
def mirrorPageTotal (regions : Vector (Option Region) 32) : Nat :=
  ((mirrorRegions regions).map Region.count).sum

/-- The region digest (R83). -/
def regionDigest (regions : Vector (Option Region) 32) : BitVec 32 :=
  crc32 ((mirrorRegions regions).flatMap (fun r => beBytes 4 r.base ++ beBytes 4 r.count))

/-- Whether a region shares a page with a valid entry at another index than `i` (R77, check 4). -/
def overlapsOther (regions : Vector (Option Region) 32) (i : Fin 32) (r : Region) : Bool :=
  regionIndices.any (fun j => decide (j ≠ i) && (match regions[j] with
    | some q => r.overlaps q
    | none => false))

/-- The policy a code names, if it names one (R197). -/
def policyOfCode (b : Byte) : Option Policy :=
  if b = 0 then some .async else if b = 1 then some .syncOpen else if b = 2 then some .syncClosed else none

/-- The kind that LOAD_REGION's kind and policy bytes name, if their values are in range; for GUARD and SIGNAL the
policy byte is not checked (R77, check 1; R197). -/
def kindOfCodes (kind policy : Byte) : Option RegionKind :=
  if kind = 0 then (policyOfCode policy).map RegionKind.mirror
  else if kind = 1 then some .guard else if kind = 2 then some .signal else none

/-- A region index in range (R77, R80, R81, R197). -/
def regionIndex (b : Byte) : Option (Fin 32) :=
  if h : b.toNat < 32 then some ⟨b.toNat, h⟩ else none

/-- The region that LOAD_REGION's body asks for, if every value is in range and the region ends at or before page
2^28 - 1 (R77, checks 1 and 2). -/
def loadedRegion (base count : BitVec 32) (kind policy : Byte) : Option Region :=
  match kindOfCodes kind policy with
  | none => none
  | some k =>
    if base.toNat < Config.pageLimit ∧ 1 ≤ count.toNat ∧ count.toNat ≤ 65536
        ∧ base.toNat + count.toNat ≤ Config.pageLimit then
      some { base := base.toNat, count := count.toNat, kind := k }
    else none

/-- The part's own state is OFF: the mirror state in the primary role, the replica state in the replica role (R78). -/
def ownStateOff (s : State) : Bool :=
  match s.role with
  | .primary => s.mirror.state == .off
  | .replica => s.replica.state == .off

/-- Whether R78 permits a change from the old entry to the new one. -/
def changePermitted (old new : Option Region) (s : State) : Bool :=
  ownStateOff s || !((old.any Region.isProtected) || (new.any Region.isProtected))

/-- A WRITE that is refused at its take: GUARD in either role, MIRROR in the replica role (R73, R74, R75). -/
def refusedAtTake (kind : ReqKind) (c : ReqClass) (role : Role) : Bool :=
  match kind, c, role with
  | .write, .guard _, _ => true
  | .write, .mirror _ _, .replica => true
  | _, _, _ => false

/-- The synchronous policy of a region's policy (R56). -/
def syncPolicy : Policy → Option SyncPolicy
  | .async => none
  | .syncOpen => some .opened
  | .syncClosed => some .closed

/-- A mirror state in which a session's stream runs and writes are captured: STREAMING or CATCHUP (R6, R30). -/
def MirrorState.capturing : MirrorState → Bool
  | .streaming => true
  | .catchup => true
  | .off => false
  | .linking => false
  | .tracking => false
  | .draining => false

/-- A request that receives a pledge at its take: a synchronous mirror write in STREAMING or CATCHUP (R6, R58). -/
def pledgedTake (kind : ReqKind) (c : ReqClass) (s : State) : Bool :=
  match kind, c with
  | .write, .mirror _ p => (syncPolicy p).isSome && s.role == .primary && s.mirror.state.capturing
  | _, _ => false

end Sys2Proof.Machine
end

