-- ==== Sys2Proof/Machine/Ops.lean ====
section
/-! DEFINITION. Operations that several blocks share: when a step is taken, the lines and what their owners take from them,
the exception list, responses of the service port, tracking entries and the answer queue, the internal source, unsettled
writes (R82, R88, R94, R100, R102, R142, R176, R189). -/
namespace Sys2Proof.Machine

/-- A step of the running part. While the part is held in reset the host side, the memory side, the link and the
service port take nothing, and the step does not arise (R104, R144, R180, R204). -/
def live (f : State → State) (s : State) : Result :=
  .next (if s.phase = .running then f s else s)

/-! ### The lines and their deliveries -/

/-- The character layer of a line. -/
def lineOf (l : LineId) (s : State) : Line :=
  match l with
  | .link => s.linkLine
  | .service => s.svcLine

/-- The part with another character layer on a line. -/
def withLine (l : LineId) (x : Line) (s : State) : State :=
  match l with
  | .link => s.withLinkLine x
  | .service => s.withSvcLine x

/-- The owner of a line takes the oldest delivery that it has not yet handled. `handle` says what becomes of it, in the part
without the delivery, and `none` that this step is not the one that handles it: then nothing happens (R142). -/
def takeDelivery (l : LineId) (handle : Delivery → State → Option State) (s : State) : State :=
  match (lineOf l s).delivered with
  | [] => s
  | d :: rest => (handle d (withLine l { lineOf l s with delivered := rest } s)).getD s

/-! ### The exception list -/

/-- A record joins the list, or the list overflows (R176, third and fourth case). -/
def addRecord (r : ExceptionRecord) (s : State) : State :=
  if s.exceptions.records.length < Config.exceptionPlaces then
    setAlert .exception (s.withExceptions { s.exceptions with records := s.exceptions.records ++ [r] })
  else
    setAlert .listOverflow (s.withExceptions
      { s.exceptions with overflow := true, lost := addSat Config.shortTop s.exceptions.lost 1 })

/-- Two exceptions agree on kind, source and region; the line address is ignored (R176). -/
def sameException (r q : ExceptionRecord) : Bool :=
  r.kind == q.kind && r.source == q.source && r.region == q.region

/-- An exception is reported to the list (R176). -/
def report (kind : ExceptionKind) (source : Option Byte) (addr : LineAddr) (region : Option (Fin 32))
    (s : State) : State :=
  let r : ExceptionRecord := { kind := kind, source := source, addr := addr, region := region, count := 1 }
  if s.exceptions.overflow then
    s.withExceptions { s.exceptions with lost := addSat Config.shortTop s.exceptions.lost 1 }
  else
    match s.exceptions.records.getLast? with
    | some newest =>
      if sameException newest r then
        s.withExceptions { s.exceptions with
          records := s.exceptions.records.dropLast ++ [{ newest with count := addSat 255 newest.count 1 }] }
      else addRecord r s
    | none => addRecord r s

/-! ### The service port -/

/-- The free places of the response list: four, less the responses, less one while a response is deferred (R189). -/
def freePlaces (s : State) : Nat :=
  Config.responsePlaces - s.port.responses.length - (if s.port.slot.isSome then 1 else 0)

/-- A built response joins the response list: it is sent (R189). -/
def pushResponse (r : SvcResponse) (s : State) : State :=
  s.withPort { s.port with responses := s.port.responses ++ [r] }

/-- The response to a command: the command's code plus 128, a status and a body (R186). -/
def respond (code : Nat) (status : Status) (body : List Byte) (s : State) : State :=
  pushResponse { code := BitVec.ofNat 8 (code + 128), status := status, body := body, divisorDue := false } s

/-- The response deferred for a command joins the list in its held-back place and the slot becomes free (R191, R203). -/
def finishSlot (code : Nat) (status : Status) (body : List Byte) (s : State) : State :=
  let t := respond code status body s
  t.withPort { t.port with slot := none }

/-- The code of the command that holds the slot (R190). -/
def holderCode : SlotHolder → Nat
  | .stopDrain => 8
  | .softReset => 21

/-- A delivered service frame that finds no free place is dropped without any check, and otherwise handled (R189). -/
def withPlace (act : State → State) (s : State) : State :=
  if freePlaces s = 0 then bump .serviceDropped s else act s

/-- A command that passed R187 is handled by the slot: answered BUSY with the holder's code while the slot is occupied, and
otherwise carried out (R190). -/
def throughSlot (code : Nat) (act : State → State) (s : State) : State :=
  match s.port.slot with
  | none => act s
  | some h => respond code .busy (beBytes 1 (holderCode h)) s

/-- The service port takes the oldest delivered frame, if it is the frame of the command `c` (R142, R187). -/
def takeCommand (c : Instr) (act : State → State) (s : State) : Result :=
  live (takeDelivery .service (fun d s => if serviceCommand d = some c then some (act s) else none)) s

/-- The frame of a command is taken and handled: dropped without a free place (R189), BUSY while the slot is occupied, and
otherwise carried out (R190). -/
def serve (c : Instr) (code : Nat) (act : State → State) (s : State) : Result :=
  takeCommand c (withPlace (throughSlot code act)) s

/-! ### Tracking entries and the answer queue -/

/-- A change of a tracking entry in use; an entry that is not in use has no fields to change. -/
def Path.modifyEntry (t : Fin 64) (f : TrackEntry → TrackEntry) (p : Path) : Path :=
  match p.table[t] with
  | .used e => { p with table := p.table.set t (.used (f e)) }
  | .free => p
  | .stale _ _ => p

/-- A response is decided: the entry goes to ANSWERING and joins the answer queue (R88, R102). -/
def Path.answer (t : Fin 64) (a : HostAnswer) (p : Path) : Path :=
  let q := p.modifyEntry t (fun e => { e with state := .answering, response := some a })
  { q with answerQueue := q.answerQueue ++ [t] }

/-- The answer to a WRITE: a status without data (R86). -/
def writeAnswer (st : MemStatus) : HostAnswer :=
  { status := st, data := [] }

/-- The answer to a refused request: ERROR, with zero data for a READ (R86, R91). -/
def errorAnswer (kind : ReqKind) : HostAnswer :=
  { status := .error, data := match kind with
      | .read => zeroLine
      | .write => [] }

/-- The free tracking entry with the lowest number that is not stale (R91). -/
def Path.freeEntry (p : Path) : Option (Fin 64) :=
  (List.finRange 64).find? (fun t => p.table[t] == .free)

/-- Capture links name no entry after the journal is emptied as a whole (R99, R100, R105). -/
def Path.dropCaptures (p : Path) : Path :=
  { p with table := p.table.map (fun t => match t with
      | .used e => .used { e with capture := none }
      | .free => .free
      | .stale src k => .stale src k) }

/-- A host write that holds a tracking entry and has not reached its forward event (R82). -/
def TrackEntry.awaitsForward (e : TrackEntry) : Bool :=
  e.req.kind == .write && e.state == .queued

/-- Every host write that waits for its forward event joins the set of unsettled writes (R82). -/
def Path.unsettle (p : Path) : Path :=
  { p with table := p.table.map (fun t => match t with
      | .used e => .used { e with unsettled := e.unsettled || e.awaitsForward }
      | .free => .free
      | .stale src k => .stale src k) }

/-- The number of unsettled writes (R81, R82). -/
def Path.unsettledCount (p : Path) : Nat :=
  p.table.toList.countP (fun t => match t with
    | .used e => e.unsettled
    | .free => false
    | .stale _ _ => false)

/-! ### The internal source -/

/-- The internal tags that are neither outstanding nor stale, lowest first (R94). -/
def Path.freeOwnTags (p : Path) : List (Fin 8) :=
  (List.finRange 8).filter (fun t => p.own[t] == .free)

/-- A request of the part's own is handed to the internal source under a tag (R94). -/
def Path.handOne (p : Path) (tr : Fin 8 × OwnRequest) : Path :=
  { p with own := p.own.set tr.1 (.waiting tr.2), ownQueue := p.ownQueue ++ [tr.1] }

/-- Requests are handed to the internal source together, each under the lowest free tag in turn (R94). -/
def Path.handOver (rs : List OwnRequest) (p : Path) : Path :=
  (p.freeOwnTags.zip rs).foldl Path.handOne p

/-- A request of the part's own is outstanding, waiting for its grant or granted; stale tags do not count (R94, R200). -/
def OwnTag.outstanding : OwnTag → Bool
  | .waiting _ => true
  | .granted _ => true
  | .free => false
  | .stale => false

/-- Some request of the part's own is outstanding (R200). -/
def Path.ownOutstanding (p : Path) : Bool :=
  p.own.toList.any OwnTag.outstanding

end Sys2Proof.Machine
end

