-- ==== Sys2Proof/Machine/Journal.lean ====
section
/-! DEFINITION. The operations of the mirror journal and of the held completion list: room, appends, confirmation and
voiding, the send point, rewinds, removal, emptying and the releases of held writes (chapters 1 and 3). -/
namespace Sys2Proof.Machine

/-! ### Entries and room -/

/-- The slots an entry holds (R5). -/
def entrySlots : EntryBody → Nat
  | .data _ _ _ _ _ => 1
  | .mark _ _ _ => 0
  | .page _ _ _ _ => 4
  | .done _ _ => 0

/-- The sequence of an entry, present once it is SENT (R2). -/
def JEntry.seq? (e : JEntry) : Option SeqNum :=
  match e.state with
  | .sent q => some q
  | .awaiting _ => none
  | .ready => none

/-- The entry is SENT (R4). -/
def JEntry.isSent (e : JEntry) : Bool :=
  e.seq?.isSome

/-- The held flag of a DATA entry (R2). -/
def JEntry.isHeld (e : JEntry) : Bool :=
  match e.body with
  | .data _ _ _ _ h => h
  | .mark _ _ _ => false
  | .page _ _ _ _ => false
  | .done _ _ => false

/-- The entry is a DONE entry (R2). -/
def JEntry.isDone (e : JEntry) : Bool :=
  match e.body with
  | .done _ _ => true
  | .data _ _ _ _ _ => false
  | .mark _ _ _ => false
  | .page _ _ _ _ => false

/-- The slots held by entries (R5). -/
def Journal.entrySlots (j : Journal) : Nat :=
  (j.entries.map (fun e => Machine.entrySlots e.body)).sum

/-- Free entry places: 512, less the entries, the pledges, and one while a reservation exists (R7). -/
def Journal.freeEntries (j : Journal) : Nat :=
  Config.journalPlaces - j.entries.length - j.pledges - (if j.reservation.isSome then 1 else 0)

/-- Free slots: 512, less the entries' slots, the pledges, and four while a reservation exists (R7). -/
def Journal.freeSlots (j : Journal) : Nat :=
  Config.journalSlots - j.entrySlots - j.pledges - (if j.reservation.isSome then 4 else 0)

/-- The slots in use that STATUS reports: entries' and a reservation's, pledged slots not counted (R26). -/
def Journal.slotsInUse (j : Journal) : Nat :=
  j.entrySlots + (if j.reservation.isSome then 4 else 0)

/-- Room for a pledge, and for a DATA entry without a pledge (R7). -/
def Journal.roomForData (j : Journal) : Bool :=
  decide (1 ≤ j.freeEntries ∧ 1 ≤ j.freeSlots)

/-- Room for a MARK entry, and for a DONE entry (R7). -/
def Journal.roomForEntry (j : Journal) : Bool :=
  decide (1 ≤ j.freeEntries)

/-- Room for a chunk read reservation (R7). -/
def Journal.roomForChunk (reserve : Nat) (j : Journal) : Bool :=
  j.reservation.isNone && decide (1 ≤ j.freeEntries ∧ 4 + reserve ≤ j.freeSlots)

/-- The number of SENT entries (R26). -/
def Journal.sentCount (j : Journal) : Nat :=
  j.entries.countP JEntry.isSent

/-- An entry is appended at the new end (R1). -/
def Journal.append (b : EntryBody) (st : JState) (j : Journal) : Journal :=
  { j with entries := j.entries ++ [{ id := j.nextId, body := b, state := st }], nextId := j.nextId + 1 }

/-! ### Confirmation and voiding -/

/-- The entry a capture link names is still in the journal (R13, R14, R99). -/
def Journal.has (id : Nat) (j : Journal) : Bool :=
  j.entries.any (fun e => e.id == id)

/-- Memory answered OKAY: the AWAITING entry becomes READY and drops its capture reference (R13). -/
def Journal.confirm (id : Nat) (j : Journal) : Journal :=
  { j with entries := j.entries.map (fun e =>
      if e.id = id then
        match e.state with
        | .awaiting _ => { e with state := .ready }
        | .ready => e
        | .sent _ => e
      else e) }

/-- Memory answered ERROR: the entry is removed wherever it stands, the others keeping their order; a send point at it
moves to the entry that followed (R14). -/
def Journal.void (id : Nat) (j : Journal) : Journal :=
  match j.entries.findIdx? (fun e => e.id == id) with
  | some i => { j with entries := j.entries.eraseIdx i,
                       sendPoint := if i < j.sendPoint then j.sendPoint - 1 else j.sendPoint }
  | none => j

/-! ### Sending -/

/-- What the journal hands the link unit: the entry's body, its sequence, whether it was already SENT, and the journal
after the take (R17). -/
structure JTake where
  body    : EntryBody
  seq     : SeqNum
  resend  : Bool
  journal : Journal

/-- The sequence a first send receives: one after the last assigned, or 0 (R18). -/
def Journal.nextSeq (j : Journal) : SeqNum :=
  match j.lastSeq with
  | some q => q + 1
  | none => 0

/-- The link unit asks for the next entry to send (R17). -/
def Journal.take (window : Nat) (j : Journal) : Option JTake :=
  match j.entries[j.sendPoint]? with
  | none => none
  | some e =>
    match e.state with
    | .sent q => some { body := e.body, seq := q, resend := true, journal := { j with sendPoint := j.sendPoint + 1 } }
    | .ready =>
      if j.sentCount < window then
        some { body := e.body, seq := j.nextSeq, resend := false,
               journal := { j with entries := j.entries.set j.sendPoint { e with state := .sent j.nextSeq },
                                   sendPoint := j.sendPoint + 1, lastSeq := some j.nextSeq } }
      else none
    | .awaiting _ => none

/-- The frame built from an entry (R3). -/
def entryFrame (session : Byte) (n : SeqNum) (b : EntryBody) : LinkFrame :=
  { session := session, body := .seq n (match b with
      | .data addr be bytes _ _ => .data addr be bytes
      | .mark _ value region => .mark value region
      | .page page chunk _ bytes => .page (BitVec.ofNat 28 page) chunk bytes
      | .done copied skipped => .done (BitVec.ofNat 32 copied) (BitVec.ofNat 32 skipped)) }

/-- A rewind to the oldest SENT entry (R19). -/
def Journal.rewindOldest (j : Journal) : Journal :=
  match j.entries.findIdx? JEntry.isSent with
  | some i => { j with sendPoint := i }
  | none => j

/-- A rewind to the SENT entry that carries a sequence; if none carries it the send point stays (R20). -/
def Journal.rewindTo (n : SeqNum) (j : Journal) : Journal :=
  match j.entries.findIdx? (fun e => e.seq? == some n) with
  | some i => { j with sendPoint := i }
  | none => j

/-! ### Acknowledgement -/

/-- The sequence b of the range check: of the oldest SENT entry, or the next to be assigned (R124). -/
def Journal.ackBase (j : Journal) : SeqNum :=
  match j.entries.findSome? JEntry.seq? with
  | some q => q
  | none => j.nextSeq

/-- The distance d of the range check (R124). -/
def Journal.ackDistance (n : SeqNum) (j : Journal) : Nat :=
  (n - j.ackBase).toNat

/-- The `d` oldest entries are removed from the old end; a send point at a removed entry moves to the first entry that
remains (R21). -/
def Journal.removeOldest (d : Nat) (j : Journal) : Journal :=
  { j with entries := j.entries.drop d, sendPoint := j.sendPoint - d }

/-- Every entry is removed, the send point goes to the new end, the last assigned sequence becomes none and a standing
reservation is cancelled; pledges stay (R8, R23, R24). -/
def Journal.empty (j : Journal) : Journal :=
  { j with entries := [], sendPoint := 0, lastSeq := none,
           reservation := j.reservation.map (fun r => { r with cancelled := true }) }

/-! ### The held completion list -/

/-- A free place in the held list: 32, less the records, less the pledges (R58). -/
def heldPlaceFree (s : State) : Bool :=
  decide (s.held.length + s.journal.pledges < Config.heldPlaces)

/-- The status of a release by policy whose memory status is OKAY (R63). -/
def policyStatus : SyncPolicy → MemStatus
  | .opened => .okay
  | .closed => .error

/-- The completion rule of a release by policy before memory has answered: its verdict (R64, R100). -/
def policyRule : SyncPolicy → CompletionRule
  | .opened => .asMemory
  | .closed => .closed

/-- One record is released by policy (R63, R64, R100). -/
def releaseOne (p : Path) (r : HeldRecord) : Path :=
  if r.memOkay then p.answer r.track (writeAnswer (policyStatus r.policy))
  else p.modifyEntry r.track (fun e => { e with rule := some (policyRule r.policy) })

/-- Every record is released by policy, in list order (R63). -/
def releaseByPolicy (s : State) : State :=
  (s.withPath (s.held.foldl releaseOne s.path)).withHeld []

/-- The records that wait on removed entries are released with OKAY, in list order (R62, R100). -/
def releaseAcked (ids : List Nat) (s : State) : State :=
  let acked := s.held.filter (fun r => ids.contains r.entry)
  (s.withPath (acked.foldl (fun p r => p.answer r.track (writeAnswer .okay)) s.path)).withHeld
    (s.held.filter (fun r => !ids.contains r.entry))

/-- The journal is emptied as a whole: held writes are released by policy and capture links name no entry (R23, R24). -/
def emptyJournal (s : State) : State :=
  let t := releaseByPolicy s
  (t.withPath t.path.dropCaptures).withJournal t.journal.empty

end Sys2Proof.Machine
end

