-- ==== Sys2Proof/Machine/Mirror.lean ====
section
/-! DEFINITION. The operations of the mirror state machine and of the link unit that several steps share: marking, the
sweep's page ends, conversion, stopping, attempts and sessions won and lost (chapters 2 and 6). -/
namespace Sys2Proof.Machine

/-! ### The dirty page map -/

/-- A page joins an ascending set of pages in its place; a page already there is left (R33, R36). -/
def insertPage (p : Nat) : List Nat → List Nat
  | [] => [p]
  | q :: qs => if p < q then p :: q :: qs else if p = q then q :: qs else q :: insertPage p qs

/-- The catch-up-active flag is set; from clear to set the cursor and the pass count go to 0, and STREAMING becomes
CATCHUP (R29). -/
def Mirror.setCatchup (m : Mirror) : Mirror :=
  { m with
    catchupActive := true
    cursor := if m.catchupActive then m.cursor else 0
    passCount := if m.catchupActive then m.passCount else 0
    state := if m.state = .streaming then .catchup else m.state }

/-- The COPYING page's recopy flag is set when the page is this one (R36). -/
def Mirror.touch (p : Nat) (m : Mirror) : Mirror :=
  { m with copying := m.copying.map (fun c => if c.page = p then { c with recopy := true } else c) }

/-- A page is marked: it joins the map as DIRTY, or stays DIRTY, or its recopy flag is set; outside OFF the mark sets
catch-up-active (R29, R36). -/
def Mirror.mark (p : Nat) (m : Mirror) : Mirror :=
  let m1 := { m.touch p with marks := insertPage p m.marks }
  if m.state = .off then m1 else m1.setCatchup

/-- Pages are marked in order (R43, R54). -/
def Mirror.markAll (ps : List Nat) (m : Mirror) : Mirror :=
  ps.foldl (fun m p => m.mark p) m

/-- Every mark is removed and the sweep's values return to 0 (R34). -/
def Mirror.emptyMap (m : Mirror) : Mirror :=
  { m with marks := [], copying := none, cursor := 0, passCount := 0, copied := 0, skipped := 0 }

/-- The mirror state enters OFF: the map is emptied, catch-up-active cleared, the clean start disarmed and the drain
timer stopped (R28, R29, R34, R48). The drain count is kept (R50). -/
def Mirror.toOff (m : Mirror) : Mirror :=
  { m.emptyMap with state := .off, catchupActive := false, cleanArmed := false, drainTimer := none }

/-- The sweep runs in CATCHUP, and in DRAINING with catch-up-active set (R37). -/
def Mirror.sweepRuns (m : Mirror) : Bool :=
  m.state == .catchup || (m.state == .draining && m.catchupActive)

/-- The sweep cursor moves to the page after the one just copied or skipped; after page 2^28 - 1 it becomes 0 and the
pass count goes up by one (R40, R41). -/
def Mirror.cursorPast (p : Nat) (m : Mirror) : Mirror :=
  if p + 1 = Config.pageLimit then { m with cursor := 0, passCount := addSat Config.shortTop m.passCount 1 }
  else { m with cursor := p + 1 }

/-- The copy of a page ends: the page returns to DIRTY if its recopy flag is set, and otherwise leaves the map and is
counted; the cursor moves past it (R40). -/
def endCopy (c : Copying) (s : State) : State :=
  if c.recopy then s.withMirror (({ s.mirror with copying := none } : Mirror).cursorPast c.page)
  else
    bump .pagesCopied (s.withMirror (({ s.mirror with
      copying := none, marks := s.mirror.marks.filter (fun p => p ≠ c.page),
      copied := addSat Config.countTop s.mirror.copied 1 } : Mirror).cursorPast c.page))

/-- A chunk read faults: the page's mark is removed, the page counted as skipped, SWEEP_READ_FAULT reported, and the
cursor moves past the page (R41). -/
def chunkFault (r : Reservation) (addr : LineAddr) (s : State) : State :=
  report .sweepReadFault none addr (some r.region)
    (bump .pagesSkipped (s.withMirror (({ s.mirror with
      copying := none, marks := s.mirror.marks.filter (fun p => p ≠ r.page),
      skipped := addSat Config.countTop s.mirror.skipped 1 } : Mirror).cursorPast r.page)))

/-- An uncaptured write: the counter and the drain count go up by one (R49, R50, R55). -/
def countUncaptured (s : State) : State :=
  bump .uncapturedWrites
    (s.withMirror { s.mirror with drainCount := addSat Config.shortTop s.mirror.drainCount 1 })

/-! ### Conversion and stopping -/

/-- One entry is handed to the dirty page map and the counters by its kind (R23, R46). -/
def convertEntry (s : State) (e : JEntry) : State :=
  match e.body with
  | .data addr _ _ _ _ => s.withMirror (s.mirror.mark (pageOf addr))
  | .page p _ _ _ => s.withMirror (s.mirror.mark p)
  | .mark _ _ _ => bump .markersDropped s
  | .done copied skipped =>
    s.withMirror { s.mirror with copied := addSat Config.countTop s.mirror.copied copied,
                                 skipped := addSat Config.countTop s.mirror.skipped skipped }

/-- Conversion on link loss in STREAMING or CATCHUP: the COPYING page returns to DIRTY, every entry is converted oldest
first, the journal is emptied, catch-up-active is set and the mirror state becomes TRACKING (R23, R46). -/
def convert (s : State) : State :=
  let t := emptyJournal (s.journal.entries.foldl convertEntry (s.withMirror { s.mirror with copying := none }))
  t.withMirror { t.mirror.setCatchup with state := .tracking }

/-- The journal and the map are emptied without conversion and the mirror state becomes OFF (R24, R34, R48). -/
def stopMirror (s : State) : State :=
  let t := emptyJournal s
  t.withMirror t.mirror.toOff

/-! ### The link unit -/

/-- A session frame joins the control queue at its new end (R119). No bound is enforced (notes/assumptions/22.md). -/
def Link.place (f : LinkFrame) (l : Link) : Link :=
  { l with control := l.control ++ [f] }

/-- The frame is a HELLO (R109). -/
def isHello (f : LinkFrame) : Bool :=
  match f.body with
  | .hello _ => true
  | .welcome _ => false
  | .bye _ => false
  | .seq _ _ => false
  | .ack _ => false
  | .nak _ => false

/-- A HELLO that waits in the control queue leaves it wherever it stands (R116, R117, R118, R119). -/
def Link.dropHello (l : Link) : Link :=
  { l with control := l.control.filter (fun f => !isHello f) }

/-- The link unit goes to IDLE of its own accord: BYE(STOPPED) is placed if the session is UP, a waiting HELLO is
removed, every timer is stopped and the retry counter becomes 0 (R48, R118, R130). -/
def Link.stop (l : Link) : Link :=
  let l1 := if l.state = .up then l.dropHello.place { session := l.session, body := .bye .stopped } else l.dropHello
  { l1 with state := .idle, retry := 0, helloTimer := none, ackTimer := none, holdTimer := none, relinkTimer := none }

/-- STOP NOW in the primary role (R48), which a soft reset and the end of a drain by timeout or ABORT also do. -/
def stopPrimary (s : State) : State :=
  let t := stopMirror s
  t.withLink t.link.stop

/-- The deferred response of STOP DRAIN is sent and DRAIN_END set (R51, R52, R53, R191). -/
def endDrain (status : Status) (body : List Byte) (s : State) : State :=
  finishSlot 8 status body (setAlert .drainEnd s)

/-- The session number after this one; 0 is never taken (R113). -/
def nextSession (n : Byte) : Byte :=
  if n = 255 then 1 else n + 1

/-- The body of the HELLO that a new attempt offers: digest, one flag by catch-up-active, window, revision 1 (R29,
R110, R114). -/
def helloBody (s : State) : HelloBody :=
  { digest := regionDigest s.regions, flags := if s.mirror.catchupActive then 1 else 2,
    window := BitVec.ofNat 8 (param .window s), revision := 1 }

/-- The mirror state enters LINKING and the link unit offers a new session (R113, R114, R122). -/
def enterLinking (s : State) : State :=
  let n := nextSession s.link.session
  let h := helloBody s
  let l : Link := { s.link with
    state := .helloWait, session := n, helloSends := 0, retry := 0, cause := .none, hello := some h,
    relinkTimer := none, holdTimer := if s.holdIn then startedTimer .holdTimeout s else none }
  ((s.withMirror { s.mirror with state := .linking }).withJournal { s.journal with lastSeq := none }).withLink
    (l.place { session := n, body := .hello h })

/-- An attempt is lost in HELLO_WAIT (R45, R117, R118). -/
def attemptLost (cause : LossCause) (s : State) : State :=
  (s.withLink { s.link.dropHello with
      state := .idle, cause := cause, helloTimer := none, holdTimer := none,
      relinkTimer := startedTimer .relinkInterval s }).withMirror
    { s.mirror.setCatchup with state := .tracking, cleanArmed := false }

/-- The link unit's own part of a session lost in UP (R129). -/
def linkLost (cause : LossCause) (s : State) : State :=
  setAlert .linkLost (s.withLink { s.link with
    state := .idle, retry := 0, cause := cause, ackTimer := none, holdTimer := none })

/-- A session is lost in UP: conversion and TRACKING in STREAMING and CATCHUP (R46), the end of the drain in DRAINING
(R52); in the other states the mirror state machine has no session to lose (R47). -/
def sessionLost (cause : LossCause) (s : State) : State :=
  let t := linkLost cause s
  match s.mirror.state with
  | .streaming =>
    let u := convert t
    u.withLink { u.link with relinkTimer := startedTimer .relinkInterval u }
  | .catchup =>
    let u := convert t
    u.withLink { u.link with relinkTimer := startedTimer .relinkInterval u }
  | .draining => endDrain .linkLost [] (stopMirror t)
  | .off => t
  | .linking => t
  | .tracking => t

/-- SENT entries remain in the journal (R22, R123). -/
def sentRemain (s : State) : Bool :=
  decide (0 < s.journal.sentCount)

/-- A removal of the `d` oldest entries with its reports: held writes released, CATCHUP_DONE for a DONE entry, the ACK
timer started again or stopped (R21, R22, R42, R62, R123). -/
def removeAcked (d : Nat) (s : State) : State :=
  let gone := s.journal.entries.take d
  let t := releaseAcked ((gone.filter JEntry.isHeld).map JEntry.id) (s.withJournal (s.journal.removeOldest d))
  let u := if gone.any JEntry.isDone then setAlert .catchupDone t else t
  u.withLink { u.link with ackTimer := (if sentRemain u && !u.holdIn then startedTimer .ackTimeout u else none) }

/-- The retry counter is compared with the retry limit (R127). -/
def checkRetry (s : State) : State :=
  if param .retryLimit s < s.link.retry then sessionLost .retryExhausted s else s

/-- A frame out of range: BYE(PROTOCOL) is placed and the session lost (R124). -/
def protocolLoss (s : State) : State :=
  sessionLost .protocol (s.withLink (s.link.place { session := s.link.session, body := .bye .protocol }))

end Sys2Proof.Machine
end

