-- ==== Sys2Proof/Machine/Unit.lean ====
section
/-! DEFINITION. The operations of the replica apply unit that several steps share: the reply list, leaving a session,
retirement, acknowledgement, apply faults, role changes (chapter 8). -/
namespace Sys2Proof.Machine

/-! ### The reply list -/

/-- An acknowledgement frame: ACK or NAK (R109). -/
def isAckFrame (f : LinkFrame) : Bool :=
  match f.body with
  | .ack _ => true
  | .nak _ => true
  | .hello _ => false
  | .welcome _ => false
  | .bye _ => false
  | .seq _ _ => false

/-- The frame is a WELCOME (R109). -/
def isWelcome (f : LinkFrame) : Bool :=
  match f.body with
  | .welcome _ => true
  | .ack _ => false
  | .nak _ => false
  | .hello _ => false
  | .bye _ => false
  | .seq _ _ => false

/-- The frame is a BYE (R109). -/
def isBye (f : LinkFrame) : Bool :=
  match f.body with
  | .bye _ => true
  | .welcome _ => false
  | .ack _ => false
  | .nak _ => false
  | .hello _ => false
  | .seq _ _ => false

/-- A WELCOME or BYE joins the reply list at its new end, unless one already waits there (R165). -/
def joinOnce (same : LinkFrame → Bool) (f : LinkFrame) (rs : List LinkFrame) : List LinkFrame :=
  if rs.any same then rs else rs ++ [f]

/-- An acknowledgement frame takes the place of one that waits, and otherwise joins at the new end (R165). -/
def joinAck (f : LinkFrame) (rs : List LinkFrame) : List LinkFrame :=
  if rs.any isAckFrame then rs.map (fun g => if isAckFrame g then f else g) else rs ++ [f]

/-- A WELCOME for a session joins the reply list (R151, R152, R153, R165). -/
def Replica.sendWelcome (session : Byte) (result : WelcomeResult) (r : Replica) : Replica :=
  { r with replies := joinOnce isWelcome { session := session, body := .welcome result } r.replies }

/-- An ACK carrying the acknowledgement point is handed over (R164). -/
def Replica.sendAck (r : Replica) : Replica :=
  { r with replies := joinAck { session := r.session, body := .ack r.ackPoint } r.replies, retired := 0 }

/-- A NAK carrying the expected sequence is handed over and NAK due cleared (R164). -/
def Replica.sendNak (r : Replica) : Replica :=
  { r with replies := joinAck { session := r.session, body := .nak r.expected } r.replies, retired := 0,
           nakDue := false }

/-! ### Sessions -/

/-- The level driven on HOLD for a queue length: asserted from 12, withdrawn from 8 down, otherwise kept (R161). -/
def holdLevel (n : Nat) (level : Bool) : Bool :=
  if Config.holdHigh ≤ n then true else if n ≤ Config.holdLow then false else level

/-- The unit's fields after it left a session with or without a BYE (R149). -/
def Replica.left (bye : Option ByeReason) (dest : ReplicaState) (r : Replica) : Replica :=
  let kept := r.replies.filter (fun f => !isAckFrame f)
  { r with
    state := dest, session := 0, welcomePending := false, catchupFollows := false, cleanStart := false, window := 128,
    expected := 0, retired := 0, nakOutstanding := false, nakDue := false, queue := [], hold := false,
    replies := match bye with
      | some reason => joinOnce isBye { session := r.session, body := .bye reason } kept
      | none => kept }

/-- The replica leaves its session: frames not started are counted under FLUSHED (R149). -/
def leaveSession (bye : Option ByeReason) (dest : ReplicaState) (s : State) : State :=
  bumpBy (s.replica.queue.countP (fun f => !f.started)) (.discarded .flushed)
    (s.withReplica (s.replica.left bye dest))

/-- STOP NOW in the replica role: a session is left with BYE(STOPPED), and the replica state becomes OFF (R148). -/
def stopReplica (s : State) : State :=
  match s.replica.state with
  | .session => leaveSession (some .stopped) .off s
  | .listening => s.withReplica { s.replica with state := .off }
  | .off => s

/-- A HELLO judged in LISTENING: refused by revision or by digest, or accepted (R151, R152). -/
def judgeHello (session : Byte) (h : HelloBody) (s : State) : State :=
  if h.revision ≠ 1 then s.withReplica (s.replica.sendWelcome session .refuseRevision)
  else if h.digest ≠ regionDigest s.regions then s.withReplica (s.replica.sendWelcome session .refuseRegions)
  else
    s.withReplica { s.replica with
      state := .session, session := session, expected := 0, ackPoint := 0, retired := 0, nakOutstanding := false,
      nakDue := false, catchupFollows := h.flags.getLsbD 0, cleanStart := h.flags.getLsbD 1,
      window := h.window.toNat, welcomePending := true }

/-! ### Retirement, acknowledgement and apply faults -/

/-- What a retirement does by the frame's kind (R163, R166, R167). -/
def retireEffect (b : SeqBody) (s : State) : State :=
  match b with
  | .data _ _ _ => s
  | .page _ _ _ => s
  | .mark value region =>
    setAlert .markApplied
      (s.withReplica { s.replica with marker := { valid := true, value := value, region := region } })
  | .done _ skipped =>
    setAlert .catchupDone
      (s.withReplica { s.replica with consistency := if skipped = 0 then .consistent else .broken })

/-- A retirement counted toward acknowledgement: a NAK that is due when the queue is empty, otherwise an ACK at the
coalesce limit or when the queue is empty (R164). -/
def ackAfterRetire (s : State) : State :=
  if s.replica.queue.isEmpty && s.replica.nakDue then s.withReplica s.replica.sendNak
  else if s.replica.queue.isEmpty || decide (coalesceLimit s ≤ s.replica.retired) then
    s.withReplica s.replica.sendAck
  else s

/-- The oldest frame of the apply queue retires (R163, R164, R161). -/
def retire (f : QueuedFrame) (rest : List QueuedFrame) (s : State) : State :=
  ackAfterRetire (retireEffect f.body (s.withReplica { s.replica with
    queue := rest, ackPoint := f.seq + 1, retired := s.replica.retired + 1,
    hold := holdLevel rest.length s.replica.hold }))

/-- The started frame retires, provided it still stands in the apply queue (R162). -/
def retireStarted (s : State) : State :=
  match s.replica.queue with
  | f :: rest => if f.started then retire f rest s else s
  | [] => s

/-- An apply fault (R168). -/
def applyFault (addr : LineAddr) (region : Option (Fin 32)) (s : State) : State :=
  let t := setAlert .applyFault (report .applyFault none addr region
    (s.withReplica { s.replica with consistency := .broken }))
  match t.replica.state with
  | .session => leaveSession (some .applyFault) .listening t
  | .listening => t
  | .off => t

/-- An apply write is answered: the in-flight count goes down by one, and with the last answer the frame retires or an
apply fault takes place (R162, R168). -/
def applyAnswered (addr : LineAddr) (status : MemStatus) (s : State) : State :=
  match s.replica.applying with
  | none => s
  | some w =>
    let err := if w.firstError.isSome then w.firstError else (if status = .error then some addr else none)
    if w.remaining ≤ 1 then
      let t := s.withReplica { s.replica with applying := none }
      match err with
      | some a => applyFault a w.region t
      | none => retireStarted t
    else
      s.withReplica { s.replica with applying := some { w with remaining := w.remaining - 1, firstError := err } }

/-- A gap is seen: NAK-outstanding and NAK due are set if clear, and a NAK that is due with the queue empty is handed
over (R157, R158, R164). -/
def noteGap (s : State) : State :=
  let r := if s.replica.nakOutstanding then s.replica
    else { s.replica with nakOutstanding := true, nakDue := true }
  s.withReplica (if r.nakDue && r.queue.isEmpty then r.sendNak else r)

/-! ### The role -/

/-- A frame paused under HOLD resumes with its next character (R138). -/
def Line.resume (l : Line) : Line :=
  { l with tx := l.tx.map (fun t => if t.paused then { t with begun := t.begun + 1, paused := false } else t) }

/-- The part takes up a role that it does not hold, by SET_ROLE or PROMOTE: waiting writes become unsettled, and on taking
up the replica role HOLD is driven withdrawn, a paused frame resumes and the consistency becomes UNKNOWN (R82, R138,
R170). -/
def changeRole (role : Role) (s : State) : State :=
  let t := (s.withRole role).withPath s.path.unsettle
  match role with
  | .primary => t
  | .replica =>
    (t.withReplica { t.replica with consistency := .unknown, hold := false }).withLinkLine t.linkLine.resume

end Sys2Proof.Machine
end

