-- ==== Sys2Proof/Machine/MemoryPath.lean ====
section
/-! DEFINITION. The meanings of the memory path's steps: the take of a host request, the grant of the memory side with
the capture decision, memory responses, and responses passed back (chapter 5; R6, R9, R10, R30 to R32, R60, R75). -/
namespace Sys2Proof.Machine

/-! ### The take -/

/-- The tracking entry of a request at its take (R88, R91). -/
def newEntry (req : HostRequest) (cls : Option ReqClass) (role : Role) (pledge : Bool) : TrackEntry :=
  { req := req, cls := cls, role := role, pledge := pledge, unsettled := false, capture := none, rule := none,
    response := none, state := .queued }

/-- A tracking entry comes into use (R88). -/
def Path.occupy (t : Fin 64) (e : TrackEntry) (p : Path) : Path :=
  { p with table := p.table.set t (.used e) }

/-- A request answered ERROR at its take (R75, R91). -/
def refuseTake (t : Fin 64) (e : TrackEntry) (s : State) : State :=
  s.withPath ((s.path.occupy t e).answer t (errorAnswer e.req.kind))

/-- A forwarded request joins the host queue at its new end (R91, R93). -/
def queueTake (t : Fin 64) (e : TrackEntry) (s : State) : State :=
  let p := s.path.occupy t e
  s.withPath { p with hostQueue := p.hostQueue ++ [t] }

/-- The record a refused write is reported with, by its class (R75). -/
def reportRefusal (req : HostRequest) (c : ReqClass) (s : State) : State :=
  match c with
  | .guard i => report .guardRefused (some req.source) req.addr (some i) s
  | .mirror i _ => report .replicaRefused (some req.source) req.addr (some i) s
  | .pass => s
  | .signal _ => s

/-- A request needs a pledge at its take and finds no journal room or no held place for it (R59, R90). -/
def lacksPledgeRoom (req : HostRequest) (s : State) : Bool :=
  decide (req.source ≠ 255) && pledgedTake req.kind (classify s.regions (pageOf req.addr)) s
    && !(s.journal.roomForData && heldPlaceFree s)

/-- A request is taken into the free tracking entry `t`: refused, or queued with the pledge that it needs (R91). -/
def takeInto (t : Fin 64) (req : HostRequest) (s : State) : State :=
  if req.source = 255 then
    report .badSource (some 255) req.addr none (refuseTake t (newEntry req none s.role false) s)
  else
    let c := classify s.regions (pageOf req.addr)
    if refusedAtTake req.kind c s.role then
      reportRefusal req c (refuseTake t (newEntry req (some c) s.role false) s)
    else if pledgedTake req.kind c s then
      queueTake t (newEntry req (some c) s.role true)
        (s.withJournal { s.journal with pledges := s.journal.pledges + 1 })
    else queueTake t (newEntry req (some c) s.role false) s

/-- A request arrives at the host side: it stands at the end of intake until its take (R90). -/
def Path.present (req : Option HostRequest) (p : Path) : Path :=
  { p with intake := p.intake ++ req.toList }

/-- The head of intake is taken if R90's conditions hold, and the request behind it becomes the head; otherwise the head is
not taken and the requests behind it wait, whatever their source, kind or class (R59, R90, R92). -/
def takeHead (s : State) : State :=
  match s.path.intake, s.path.freeEntry with
  | req :: rest, some t =>
    if lacksPledgeRoom req s then s else takeInto t req (s.withPath { s.path with intake := rest })
  | _, _ => s

/-- HOST_REQUEST_TAKE: a request that the host side presents joins intake, and the head of intake is taken if it can be. While
the part is held in reset requests are presented and none is taken (R90, R91, R104). -/
def execHostRequestTake (presented : Option HostRequest) (s : State) : Result :=
  let t := s.withPath (s.path.present presented)
  .next (if t.phase = .running then takeHead t else t)

/-! ### The grant and the capture decision -/

/-- What the capture decision of a write left: the state, the capture link and the completion rule (R96). -/
structure Captured where
  state   : State
  capture : Option Nat
  rule    : CompletionRule

/-- The completion rule of a synchronous write that is not held: CLOSED under SYNC_CLOSED (R31, R96). -/
def unheldRule : Policy → CompletionRule
  | .async => .asMemory
  | .syncOpen => .asMemory
  | .syncClosed => .closed

/-- A DATA entry is appended for a write; a copy of its page under way is to be made again (R9, R30, R36). -/
def appendData (t : Fin 64) (e : TrackEntry) (i : Fin 32) (held : Bool) (s : State) : State :=
  (s.withJournal (s.journal.append (.data e.req.addr e.req.be e.req.data i held) (.awaiting t))).withMirror
    (s.mirror.touch (pageOf e.req.addr))

/-- A held record joins the held completion list (R60). -/
def joinHeld (t : Fin 64) (e : TrackEntry) (entry : Nat) (p : SyncPolicy) (s : State) : State :=
  s.withHeld (s.held ++ [{ source := e.req.source, tag := e.req.tag, track := t, entry := entry, policy := p,
                           memOkay := false }])

/-- The write's page is marked, and its completion decided by policy (R30, R31). -/
def markInstead (e : TrackEntry) (p : Policy) (s : State) : Captured :=
  { state := s.withMirror (s.mirror.mark (pageOf e.req.addr)), capture := none, rule := unheldRule p }

/-- The capture of a mirror write in STREAMING or CATCHUP (R30, R31, R60). -/
def captureStreaming (t : Fin 64) (e : TrackEntry) (i : Fin 32) (p : Policy) (s : State) : Captured :=
  match syncPolicy p with
  | none =>
    if s.journal.roomForData then
      { state := appendData t e i false s, capture := some s.journal.nextId, rule := .asMemory }
    else markInstead e p s
  | some q =>
    if e.pledge || (s.journal.roomForData && heldPlaceFree s) then
      { state := joinHeld t e s.journal.nextId q (appendData t e i true s), capture := some s.journal.nextId,
        rule := .held }
    else markInstead e p s

/-- The capture decision of a mirror write by the mirror state at its forward event (R30, R31). -/
def captureMirror (t : Fin 64) (e : TrackEntry) (i : Fin 32) (p : Policy) (s : State) : Captured :=
  match s.mirror.state with
  | .off => { state := s, capture := none, rule := .asMemory }
  | .linking => markInstead e p s
  | .tracking => markInstead e p s
  | .streaming => captureStreaming t e i p s
  | .catchup => captureStreaming t e i p s
  | .draining => { state := countUncaptured s, capture := none, rule := .asMemory }

/-- A well-formed signal write in STREAMING or CATCHUP: a MARK entry, or a dropped marker (R10, R32). -/
def captureMark (t : Fin 64) (e : TrackEntry) (i : Fin 32) (s : State) : Captured :=
  if s.journal.roomForEntry then
    { state := s.withJournal (s.journal.append (.mark e.req.addr (markerValue e.req.data) i) (.awaiting t)),
      capture := some s.journal.nextId, rule := .asMemory }
  else { state := bump .markersDropped s, capture := none, rule := .asMemory }

/-- The capture decision of a signal write: its form first, and then the mirror state (R32). -/
def captureSignal (t : Fin 64) (e : TrackEntry) (i : Fin 32) (s : State) : Captured :=
  if oneAlignedGroup e.req.be then
    match s.mirror.state with
    | .off => { state := s, capture := none, rule := .asMemory }
    | .linking => { state := bump .markersDropped s, capture := none, rule := .asMemory }
    | .tracking => { state := bump .markersDropped s, capture := none, rule := .asMemory }
    | .streaming => captureMark t e i s
    | .catchup => captureMark t e i s
    | .draining => { state := countUncaptured s, capture := none, rule := .asMemory }
  else
    { state := report .signalMalformed (some e.req.source) e.req.addr (some i) s, capture := none, rule := .asMemory }

/-- The capture decision of a write, for a class given in the primary role (R30, R31, R32, R76). -/
def captureWrite (t : Fin 64) (e : TrackEntry) (s : State) : Captured :=
  match e.role, e.cls with
  | .primary, some (.mirror i p) => captureMirror t e i p s
  | .primary, some (.signal i) => captureSignal t e i s
  | _, _ => { state := s, capture := none, rule := .asMemory }

/-- A pledge is given up: its journal room and held place return, or become the entry's and the record's (R6, R58). -/
def givePledge (e : TrackEntry) (s : State) : State :=
  if e.pledge then s.withJournal { s.journal with pledges := s.journal.pledges - 1 } else s

/-- A forwarded request on the memory request channel, under its tracking entry's number (R87, R96). -/
def hostMemRequest (t : Fin 64) (e : TrackEntry) : MemRequest :=
  { kind := e.req.kind, source := e.req.source, tag := t, addr := e.req.addr, be := e.req.be, data := e.req.data }

/-- The memory path after the grant of a host request: the request is on the channel, the record names HOST (R95, R96). -/
def Path.grantHost (t : Fin 64) (rest : List (Fin 64)) (e e' : TrackEntry) (p : Path) : Path :=
  { p with table := p.table.set t (.used e'), hostQueue := rest, lastGranted := .host,
           memOut := some (hostMemRequest t e) }

/-- The forward event of a host request (R96). -/
def forward (t : Fin 64) (rest : List (Fin 64)) (e : TrackEntry) (s : State) : State :=
  match e.req.kind with
  | .read => s.withPath (s.path.grantHost t rest e { e with state := .inMemory })
  | .write =>
    let c := captureWrite t e (givePledge e s)
    c.state.withPath (c.state.path.grantHost t rest e { e with
      req := { e.req with data := [] }, pledge := false, unsettled := false, capture := c.capture,
      rule := some c.rule, state := .inMemory })

/-- A request of the part's own on the memory request channel: source 255 and its internal tag (R87, R96). -/
def ownMemRequest (t : Fin 8) (r : OwnRequest) : MemRequest :=
  { kind := r.kind, source := 255, tag := ⟨t.val, by omega⟩, addr := r.addr, be := r.be, data := r.data }

/-- The oldest request of the host queue is granted (R95). -/
def grantHost (t : Fin 64) (rest : List (Fin 64)) (s : State) : State :=
  match s.path.table[t] with
  | .used e => forward t rest e s
  | .free => s
  | .stale _ _ => s

/-- The oldest request of the internal source is granted (R95, R96). -/
def grantOwn (t : Fin 8) (rest : List (Fin 8)) (s : State) : State :=
  match s.path.own[t] with
  | .waiting r =>
    s.withPath { s.path with own := s.path.own.set t (.granted r), ownQueue := rest, lastGranted := .internal,
                             memOut := some (ownMemRequest t r) }
  | .granted _ => s
  | .free => s
  | .stale => s

/-- The arbiter's choice between the claimants that have a request waiting (R95). -/
def arbitrate (s : State) : State :=
  match s.path.hostQueue, s.path.ownQueue with
  | [], [] => s
  | t :: ts, [] => grantHost t ts s
  | [], u :: us => grantOwn u us s
  | t :: ts, u :: us =>
    match s.path.lastGranted with
    | .host => grantOwn u us s
    | .internal => grantHost t ts s

/-- MEMORY_SIDE_GRANT: the memory request channel can accept a request (R95, R96). The role of the take decides the whole
capture (notes/assumptions/31.md). -/
def execMemorySideGrant (s : State) : Result :=
  live arbitrate s

/-! ### Memory responses -/

/-- The held record of a tracking entry is removed: memory refused the write (R61). -/
def dropHeld (t : Fin 64) (s : State) : State :=
  s.withHeld (s.held.filter (fun r => r.track ≠ t))

/-- The held record's memory status becomes OKAY and the response is kept (R61, R99). -/
def keepHeld (t : Fin 64) (s : State) : State :=
  (s.withHeld (s.held.map (fun r => if r.track = t then { r with memOkay := true } else r))).withPath
    (s.path.modifyEntry t (fun e => { e with state := .kept }))

/-- The journal is told of the answer to a captured write, if its entry is still there; the link is then dropped (R13,
R14, R15, R99). -/
def tellJournal (t : Fin 64) (e : TrackEntry) (status : MemStatus) (s : State) : State :=
  match e.capture with
  | none => s
  | some id =>
    (s.withJournal (match status with
      | .okay => s.journal.confirm id
      | .error => s.journal.void id)).withPath (s.path.modifyEntry t (fun e => { e with capture := none }))

/-- The response to a WRITE is decided by its completion rule (R99). -/
def decideWrite (t : Fin 64) (rule : CompletionRule) (status : MemStatus) (s : State) : State :=
  match rule, status with
  | .asMemory, _ => s.withPath (s.path.answer t (writeAnswer status))
  | .closed, _ => s.withPath (s.path.answer t (writeAnswer .error))
  | .held, .okay => keepHeld t s
  | .held, .error => (dropHeld t s).withPath (s.path.answer t (writeAnswer .error))

/-- The response to a forwarded host request (R98, R99). A READ answered ERROR carries zero data (R86). -/
def hostAnswered (t : Fin 64) (e : TrackEntry) (status : MemStatus) (data : List Byte) (s : State) : State :=
  match e.req.kind with
  | .read =>
    s.withPath (s.path.answer t { status := status, data := match status with
      | .okay => data
      | .error => zeroLine })
  | .write => decideWrite t (e.rule.getD .asMemory) status (tellJournal t e status s)

/-- The 256 bytes of a chunk from its four answers, each line at its offset (R11). -/
def chunkBytes (answers : List LineAnswer) : List Byte :=
  (List.finRange 4).flatMap (fun k => match answers.find? (fun a => a.line == k) with
    | some a => a.data
    | none => [])

/-- A standing chunk read whose four reads were answered OKAY: the PAGE entry is appended in the reserved room and the
sweep advances; after chunk 15 the page's copy ends (R11, R39, R40). -/
def completeChunk (r : Reservation) (s : State) : State :=
  let j := ({ s.journal with reservation := none } : Journal).append
    (.page r.page r.chunk r.region (chunkBytes r.answers)) .ready
  let t := s.withJournal j
  match t.mirror.copying with
  | some c =>
    if r.chunk = 15 then endCopy c t
    else t.withMirror { t.mirror with copying := some { c with next := c.next + 1 } }
  | none => t

/-- The reservation's room is returned and the chunk's data dropped (R8). -/
def dropReservation (s : State) : State :=
  s.withJournal { s.journal with reservation := none }

/-- The first of the answers that is ERROR, in the order they came (R41). -/
def firstErrorLine (answers : List LineAnswer) : Option (Fin 4) :=
  (answers.find? (fun a => a.status == .error)).map LineAnswer.line

/-- The last of a chunk's four reads has been answered (R8, R39, R41). -/
def endChunk (r : Reservation) (s : State) : State :=
  if r.cancelled then dropReservation s
  else
    match firstErrorLine r.answers with
    | some k => chunkFault r (chunkLineAddr r.page r.chunk.val k.val) (dropReservation s)
    | none => completeChunk r s

/-- A line read of a chunk is answered (R8, R101). -/
def sweepAnswered (line : Fin 4) (status : MemStatus) (data : List Byte) (s : State) : State :=
  match s.journal.reservation with
  | none => s
  | some r =>
    let r' := { r with answers := r.answers ++ [{ line := line, status := status, data := data }] }
    if r'.answers.length < 4 then s.withJournal { s.journal with reservation := some r' } else endChunk r' s

/-- The response to a request of the part's own goes to the block that handed it over (R101). -/
def ownAnswered (r : OwnRequest) (status : MemStatus) (data : List Byte) (s : State) : State :=
  match r.use with
  | .sweep line => sweepAnswered line status data s
  | .apply _ => applyAnswered r.addr status s

/-- The internal tag a memory-side tag names, if it is 0 to 7 (R87). -/
def ownTagOf (tag : Fin 64) : Option (Fin 8) :=
  if h : tag.val < 8 then some ⟨tag.val, h⟩ else none

/-- An internal tag becomes free (R97, R101, R103). -/
def Path.freeOwn (t : Fin 8) (p : Path) : Path :=
  { p with own := p.own.set t .free }

/-- A response with source 255 (R97, R101, R103). -/
def matchOwn (tag : Fin 64) (status : MemStatus) (data : List Byte) (s : State) : State :=
  match ownTagOf tag with
  | none => s
  | some t =>
    match s.path.own[t] with
    | .granted r => ownAnswered r status data (s.withPath (s.path.freeOwn t))
    | .stale => s.withPath (s.path.freeOwn t)
    | .waiting _ => s
    | .free => s

/-- A response with a host source (R97, R98, R99, R103). -/
def matchHost (source : Byte) (t : Fin 64) (status : MemStatus) (data : List Byte) (s : State) : State :=
  match s.path.table[t] with
  | .used e => if e.state = .inMemory ∧ e.req.source = source then hostAnswered t e status data s else s
  | .stale src _ => if src = source then s.withPath { s.path with table := s.path.table.set t .free } else s
  | .free => s

/-- MEMORY_RESPONSE: matched to a request, to a stale tag, or dropped (R97). It also arrives while RST_N is low (R104,
notes/assumptions/9.md); one that names an internal tag not yet granted is dropped (notes/assumptions/18.md). -/
def execMemoryResponse (source : Byte) (tag : Fin 64) (status : MemStatus) (data : List Byte) (s : State) : Result :=
  .next (if source = 255 then matchOwn tag status data s else matchHost source tag status data s)

/-! ### Responses passed back -/

/-- The oldest response of the answer queue is passed back and its entry freed (R102). -/
def passBack (s : State) : State :=
  match s.path.answerQueue with
  | [] => s
  | t :: rest =>
    match s.path.table[t] with
    | .used e =>
      match e.response with
      | some a =>
        s.withPath { s.path with
          table := s.path.table.set t .free, answerQueue := rest,
          hostOut := some { source := e.req.source, tag := e.req.tag, status := a.status, data := a.data } }
      | none => s
    | .free => s
    | .stale _ _ => s

/-- HOST_RESPONSE_PASS_BACK: the host response channel accepts (R102). -/
def execHostResponsePassBack (s : State) : Result :=
  live passBack s

end Sys2Proof.Machine
end

