-- ==== Sys2Proof/Machine/Resets.lean ====
section
/-! DEFINITION. The meanings of the power-on and board reset steps (R25, R28, R67, R85, R103, R104, R112, R144, R172, R180,
R185, R193, R199, R204). -/
namespace Sys2Proof.Machine

/-- A tracking entry at the assertion of board reset: IN_MEMORY and KEPT leave a stale tag (R103). -/
def staleSlot : TrackSlot → TrackSlot
  | .used e =>
    match e.state with
    | .inMemory => .stale e.req.source false
    | .kept => .stale e.req.source true
    | .queued => .free
    | .answering => .free
  | .free => .free
  | .stale src k => .stale src k

/-- An internal tag at the assertion of board reset: a granted request leaves a stale tag, a waiting one is dropped (R103). -/
def staleOwn : OwnTag → OwnTag
  | .granted _ => .stale
  | .waiting _ => .free
  | .free => .free
  | .stale => .stale

/-- The memory path at the assertion of board reset: everything is cleared but the tags outstanding on the memory side (R103)
and the requests that stay presented at the host side (R90). -/
def Path.boardReset (p : Path) : Path :=
  { Path.reset with intake := p.intake, table := p.table.map staleSlot, own := p.own.map staleOwn }

/-- The stale mark of a KEPT entry is cleared at the release of RST_N (R103). -/
def clearKept : TrackSlot → TrackSlot
  | .stale src k => if k then .free else .stale src k
  | .used e => .used e
  | .free => .free

/-- POWER_ON_RESET: every block takes its power-on values; the queue of commands and the level at the HOLD connection
are not the part's to change (R104 and each chapter's values after reset). -/
def execPowerOnReset (s : State) : Result :=
  .next { State.reset with pending := s.pending, holdIn := s.holdIn }

/-- BOARD_RESET_ASSERT: RST_N goes low. Kept are the session number (R112), the consistency state and the marker
register (R172), the exception list (R180), outstanding tags as stale marks (R103), and the role until the strap is
sampled (R199). While the part is already held in reset nothing changes (notes/assumptions/9.md). -/
def execBoardResetAssert (s : State) : Result :=
  .next (if s.phase = .running then
    { State.reset with
      pending := s.pending, phase := .boardReset, role := s.role, holdIn := s.holdIn, path := s.path.boardReset,
      link := { Link.reset with session := s.link.session },
      replica := { Replica.reset with marker := s.replica.marker, consistency := s.replica.consistency },
      exceptions := s.exceptions }
  else s)

/-- The role a strap level gives: low PRIMARY, high REPLICA (R199). -/
def strapRole (strapHigh : Bool) : Role :=
  if strapHigh then .replica else .primary

/-- BOARD_RESET_RELEASE: the strap is sampled and its role taken up, stale marks of KEPT entries are cleared and the
part runs (R103, R104, R199). It acts only while RST_N holds the part (notes/assumptions/9.md). -/
def execBoardResetRelease (strapHigh : Bool) (s : State) : Result :=
  .next (if s.phase = .boardReset then
    { s with phase := .running, role := strapRole strapHigh,
             path := { s.path with table := s.path.table.map clearKept } }
  else s)

/-- POWER_ON_RESET_END: the strap is sampled and its role taken up, and the part runs (R104, R199). It acts only in
power-on reset (notes/assumptions/9.md). -/
def execPowerOnResetEnd (strapHigh : Bool) (s : State) : Result :=
  .next (if s.phase = .powerOn then { s with phase := .running, role := strapRole strapHigh } else s)

end Sys2Proof.Machine
end

