-- ==== Sys2Proof/Machine/LinkUnit.lean ====
section
/-! DEFINITION. The meanings of the link unit's steps: HOLD, the timers, the frames a part takes or discards, and the
start of a frame's transmission (chapter 6; R44 to R47, R53). -/
namespace Sys2Proof.Machine

/-! ### HOLD -/

/-- HOLD rises at a primary: the ACK timer stops, and the hold timer starts in HELLO_WAIT and UP (R122, R123). -/
def holdRises (s : State) : State :=
  s.withLink { s.link with
    ackTimer := none
    holdTimer := if s.link.state = .idle then s.link.holdTimer else startedTimer .holdTimeout s }

/-- HOLD falls at a primary: the hold timer stops, a paused frame resumes, and the ACK timer starts with the full timeout
while SENT entries remain in UP (R121, R122, R123, R138). -/
def holdFalls (s : State) : State :=
  (s.withLink { s.link with
    holdTimer := none
    ackTimer := if s.link.state = .up ∧ sentRemain s = true then startedTimer .ackTimeout s
                else s.link.ackTimer }).withLinkLine s.linkLine.resume

/-- A part reads HOLD while it runs in the primary role (R138). -/
def readsHold (s : State) : Bool :=
  s.phase == .running && s.role == .primary

/-- HOLD_ASSERTED: the line at the HOLD connection goes to asserted; a primary reacts (R122, R123, R138). -/
def execHoldAsserted (s : State) : Result :=
  .next (if readsHold s && !s.holdIn then holdRises (s.withHoldIn true) else s.withHoldIn true)

/-- HOLD_WITHDRAWN: the line at the HOLD connection goes to withdrawn; a primary reacts (R121, R122, R123, R138). -/
def execHoldWithdrawn (s : State) : Result :=
  .next (if readsHold s && s.holdIn then holdFalls (s.withHoldIn false) else s.withHoldIn false)

/-! ### Timers -/

/-- The HELLO is placed again, or the attempt is lost once the HELLO attempts are used up (R115). -/
def helloExpired (s : State) : State :=
  let t := s.withLink { s.link with helloTimer := none }
  match s.link.hello with
  | some h =>
    if s.link.helloSends < param .helloAttempts s then
      t.withLink (t.link.place { session := s.link.session, body := .hello h })
    else attemptLost .noAnswer t
  | none => attemptLost .noAnswer t

/-- HELLO_TIMER_EXPIRY: a running timer expires in HELLO_WAIT (R115). -/
def execHelloTimerExpiry (s : State) : Result :=
  live (fun s => if s.link.helloTimer.isSome && s.link.state == .helloWait then helloExpired s else s) s

/-- The ACK timer expires: rewind to the oldest SENT entry, retry counter up, timer stopped, limit compared (R19, R127). -/
def ackExpired (s : State) : State :=
  checkRetry ((s.withJournal s.journal.rewindOldest).withLink
    { s.link with ackTimer := none, retry := s.link.retry + 1 })

/-- ACK_TIMER_EXPIRY: a running timer expires in UP (R127). -/
def execAckTimerExpiry (s : State) : Result :=
  live (fun s => if s.link.ackTimer.isSome && s.link.state == .up then ackExpired s else s) s

/-- The hold timer expires: the attempt or the session is lost with HOLD_STUCK (R122). -/
def holdExpired (s : State) : State :=
  match s.link.state with
  | .helloWait => attemptLost .holdStuck s
  | .up => sessionLost .holdStuck s
  | .idle => s

/-- HOLD_TIMER_EXPIRY: a running timer expires (R122). -/
def execHoldTimerExpiry (s : State) : Result :=
  live (fun s => if s.link.holdTimer.isSome then holdExpired s else s) s

/-- RELINK_TIMER_EXPIRY: a running timer expires in TRACKING: relink attempts go up and a new session is offered (R45,
R118). -/
def execRelinkTimerExpiry (s : State) : Result :=
  live (fun s =>
    if s.link.relinkTimer.isSome && s.mirror.state == .tracking then enterLinking (bump .relinkAttempts s) else s) s

/-- DRAIN_TIMER_EXPIRY: a running timer expires in DRAINING: the drain ends as STOP NOW, with DRAIN_END and the deferred
TIMEOUT (R53). -/
def execDrainTimerExpiry (s : State) : Result :=
  live (fun s =>
    if s.mirror.drainTimer.isSome && s.mirror.state == .draining then endDrain .timeout [] (stopPrimary s) else s) s

/-! ### Frames taken and discarded -/

/-- Checks 5 and 6 of R111 for a frame that passed checks 1 to 4: the cause under which the part discards it in its role
and state, if it does (R125 to R131 for a primary, R150 for a replica). -/
def stateVerdict (f : LinkFrame) (s : State) : Option DiscardCause :=
  match s.role with
  | .primary =>
    match f.body with
    | .hello _ => none
    | .welcome _ =>
      if f.session ≠ s.link.session then some .session
      else if s.link.state = .helloWait then none else some .state
    | .bye _ =>
      if f.session ≠ s.link.session then some .session
      else if s.link.state = .idle then some .state else none
    | .ack _ =>
      if f.session ≠ s.link.session then some .session
      else if s.link.state = .up then none else some .state
    | .nak _ =>
      if f.session ≠ s.link.session then some .session
      else if s.link.state = .up then none else some .state
    | .seq _ _ => some .state
  | .replica =>
    match s.replica.state with
    | .off => some .state
    | .listening =>
      match f.body with
      | .hello _ => none
      | .welcome _ => some .state
      | .bye _ => some .state
      | .ack _ => some .state
      | .nak _ => some .state
      | .seq _ _ => some .state
    | .session =>
      match f.body with
      | .hello _ => none
      | .seq _ _ => if f.session ≠ s.replica.session then some .session else none
      | .bye _ => if f.session ≠ s.replica.session then some .session else none
      | .welcome _ => some .state
      | .ack _ => some .state
      | .nak _ => some .state

/-- A frame that passed checks 1 to 4 is discarded under check 5 or 6 if one fails, and otherwise taken (R111, R150). -/
def judged (f : LinkFrame) (act : State → State) (s : State) : State :=
  match stateVerdict f s with
  | some c => discard c s
  | none => act s

/-- The link unit takes the oldest delivered frame, if it is this one (R111, R142). -/
def takeFrame (f : LinkFrame) (act : State → State) (s : State) : State :=
  takeDelivery .link (fun d s => if linkFrameOf d = some f then some (judged f act s) else none) s

/-- The cause under which the link unit discards a delivery, if it does: LENGTH for an oversize header, and for a frame the
first check of R111 that fails (R111, R150). -/
def discardCause (d : Delivery) (s : State) : Option DiscardCause :=
  match d with
  | .oversize _ => some .length
  | .frame bs =>
    match parseLink bs with
    | .error c => some c
    | .ok f => stateVerdict f s

/-- FRAME_DISCARDED: the oldest delivery, this one, is discarded and counted (R111, R142, R150). -/
def execFrameDiscarded (d : Delivery) (s : State) : Result :=
  live (takeDelivery .link (fun x s => if x = d then (discardCause x s).map (fun c => discard c s) else none)) s

/-- A BYE(ROLE_CONFLICT) waits in the control queue (R119, R131). -/
def Link.conflictWaits (l : Link) : Bool :=
  l.control.any (fun f => match f.body with
    | .bye r => r == .roleConflict
    | .hello _ => false
    | .welcome _ => false
    | .seq _ _ => false
    | .ack _ => false
    | .nak _ => false)

/-- A HELLO taken by a primary is counted under ROLE and answered with BYE(ROLE_CONFLICT) for its session, unless one
waits (R131). -/
def roleConflict (session : Byte) (s : State) : State :=
  let t := discard .role s
  if t.link.conflictWaits then t
  else t.withLink (t.link.place { session := session, body := .bye .roleConflict })

/-- A delivery is a HELLO of a session that passes checks 1 to 4 (R109, R111). -/
def helloOf (session : Byte) (d : Delivery) : Bool :=
  match linkFrameOf d with
  | some f => isHello f && f.session == session
  | none => false

/-- HELLO_ROLE_CONFLICT: a HELLO taken by a part in the primary role (R131). -/
def execHelloRoleConflict (session : Byte) (s : State) : Result :=
  live (fun s =>
    match s.role with
    | .primary =>
      takeDelivery .link (fun d s => if helloOf session d then some (roleConflict session s) else none) s
    | .replica => s) s

/-- The session is accepted: UP, with LINK_UP, and the mirror state goes on by catch-up-active (R44, R116). -/
def sessionAccepted (s : State) : State :=
  setAlert .linkUp ((s.withLink { s.link.dropHello with
      state := .up, retry := 0, helloTimer := none, ackTimer := none }).withMirror
    { s.mirror with state := if s.mirror.catchupActive then .catchup else .streaming, cleanArmed := false })

/-- A clean start overtaken by a mark is given up: BYE(STOPPED), and the attempt is lost with CLEAN_VOID (R44, R116). -/
def cleanVoid (s : State) : State :=
  attemptLost .cleanVoid (s.withLink (s.link.place { session := s.link.session, body := .bye .stopped }))

/-- A WELCOME of the current attempt, by its result (R116). -/
def welcomed (result : WelcomeResult) (s : State) : State :=
  match result with
  | .accept => if s.mirror.catchupActive && s.mirror.cleanArmed then cleanVoid s else sessionAccepted s
  | .refuseRegions => attemptLost .refusedRegions s
  | .refuseRevision => attemptLost .refusedRevision s

/-- WELCOME_TAKEN (R116; discarded as R111 and R150 give outside HELLO_WAIT). -/
def execWelcomeTaken (session : Byte) (result : WelcomeResult) (s : State) : Result :=
  live (takeFrame { session := session, body := .welcome result } (welcomed result)) s

/-- A BYE of the current session: the attempt or the session is lost with PEER_BYE (R117, R128). -/
def peerLeft (reason : ByeReason) (s : State) : State :=
  match s.link.state with
  | .helloWait => attemptLost (.peerBye reason) s
  | .up => sessionLost (.peerBye reason) s
  | .idle => s

/-- BYE_TAKEN: a BYE taken by a part in the primary role (R117, R128). -/
def execByeTaken (session : Byte) (reason : ByeReason) (s : State) : Result :=
  live (fun s =>
    match s.role with
    | .primary => takeFrame { session := session, body := .bye reason } (peerLeft reason) s
    | .replica => s) s

/-- An ACK taken in UP: range check, removal, and the retry counter cleared if entries were removed (R124, R125). -/
def ackArrived (n : SeqNum) (s : State) : State :=
  let d := s.journal.ackDistance n
  if s.journal.sentCount < d then protocolLoss s
  else if d = 0 then s
  else
    let t := removeAcked d s
    t.withLink { t.link with retry := 0 }

/-- ACK_TAKEN (R124, R125; discarded as R111 and R150 give outside UP). -/
def execAckTaken (session : Byte) (n : SeqNum) (s : State) : Result :=
  live (takeFrame { session := session, body := .ack n } (ackArrived n)) s

/-- A NAK taken in UP: range check, removal, rewind, and the retry counter changed and compared (R124, R126). -/
def nakArrived (n : SeqNum) (s : State) : State :=
  let d := s.journal.ackDistance n
  if s.journal.sentCount < d then protocolLoss s
  else
    let t := if d = 0 then s else removeAcked d s
    let u := t.withJournal (t.journal.rewindTo n)
    checkRetry (u.withLink { u.link with retry := if d = 0 then u.link.retry + 1 else 1 })

/-- NAK_TAKEN (R124, R126; discarded as R111 and R150 give outside UP). -/
def execNakTaken (session : Byte) (n : SeqNum) (s : State) : Result :=
  live (takeFrame { session := session, body := .nak n } (nakArrived n)) s

/-! ### Transmission -/

/-- HOLD keeps the mirror-link transmitter of a primary from beginning a character (R121, R138). -/
def heldOff (s : State) : Bool :=
  s.role == .primary && s.holdIn

/-- The mirror-link transmitter can begin a frame: it holds none and HOLD does not keep it (R120, R121, R137). -/
def linkTxReady (s : State) : Bool :=
  s.linkLine.tx.isNone && !heldOff s

/-- An entry handed over by the journal begins transmission; a resend is counted (R120). -/
def sendEntry (k : JTake) (s : State) : State :=
  let t := (s.withJournal k.journal).withLinkLine
    { s.linkLine with tx := beginTx (.link (entryFrame s.link.session k.seq k.body)) }
  if k.resend then bump .framesResent t else t

/-- The next frame of the link unit begins: the oldest of the control queue, or in UP the journal's next entry (R119,
R120). -/
def sendNext (s : State) : State :=
  match s.link.control with
  | f :: rest =>
    (s.withLink { s.link with control := rest }).withLinkLine { s.linkLine with tx := beginTx (.link f) }
  | [] =>
    if s.link.state = .up then
      match s.journal.take (param .window s) with
      | some k => sendEntry k s
      | none => s
    else s

/-- LINK_FRAME_TRANSMIT_START (R120). -/
def execLinkFrameTransmitStart (s : State) : Result :=
  live (fun s => if linkTxReady s then sendNext s else s) s

end Sys2Proof.Machine
end

