-- ==== Sys2Proof/Machine/Lines.lean ====
section
/-! DEFINITION. The meanings of the character layer's steps: characters received, lines sampled high, character
boundaries, the ends of transmissions, divisors taken, responses begun (chapter 7). -/
namespace Sys2Proof.Machine

/-! ### The receiver -/

/-- How a received character is judged (R139). -/
inductive Judgement where
  | good
  | parityError
  | framingError
deriving DecidableEq, Repr

/-- The stop bit decides first, then the parity (R139). -/
def judge (c : Character) : Judgement :=
  if !c.stop then .framingError else if !Character.parityOk c then .parityError else .good

/-- Whether the bytes collected end a frame: a complete frame, or an oversize header at the byte that completes the length
field (R141). -/
def frameEnd (l : LineId) (bs : List Byte) : Option Delivery :=
  match l with
  | .link =>
    if bs.length < 6 then none
    else
      let n := ofBE [bs.getD 4 0, bs.getD 5 0]
      if 261 < n then some (.oversize bs) else if 8 + n ≤ bs.length then some (.frame bs) else none
  | .service =>
    if bs.length < 2 then none
    else
      let n := (bs.getD 1 0).toNat
      if 40 < n then some (.oversize bs) else if 4 + n ≤ bs.length then some (.frame bs) else none

/-- The frame under collection, if there is one, is abandoned and counted; the receiver is in HUNT (R140, R143). -/
def abandonFrame (l : LineId) (s : State) : State :=
  let t := withLine l { lineOf l s with collected := none } s
  if (lineOf l s).collected.isSome then bump (.line l .abandoned) t else t

/-- A good unmarked character is appended to the frame under collection; if the frame is now complete it is delivered to the
line's owner, behind what still waits for it, and the receiver is free for the next one (R140, R141, R142). -/
def appendByte (l : LineId) (bs : List Byte) (b : Byte) (s : State) : State :=
  match frameEnd l (bs ++ [b]) with
  | none => withLine l { lineOf l s with collected := some (bs ++ [b]) } s
  | some d => bump (.line l .delivered) (withLine l
      { lineOf l s with collected := none, delivered := (lineOf l s).delivered ++ [d] } s)

/-- A good character by the receiver's frame state (R140). -/
def goodCharacter (l : LineId) (c : Character) (s : State) : State :=
  if c.mark then
    let t := abandonFrame l s
    withLine l { lineOf l t with collected := some [c.data] } t
  else
    match (lineOf l s).collected with
    | some bs => appendByte l bs c.data s
    | none => s

/-- A received character: counted, judged, and handled by the frame state; after a framing error the receiver waits for a
high line (R139, R140, R143). -/
def receive (l : LineId) (c : Character) (s : State) : State :=
  if (lineOf l s).waitHigh then s
  else
    let t := bump (.line l .characters) s
    match judge c with
    | .good => goodCharacter l c t
    | .parityError => abandonFrame l (bump (.line l .parity) t)
    | .framingError =>
      let u := abandonFrame l (bump (.line l .framing) t)
      withLine l { lineOf l u with waitHigh := true } u

/-- CHARACTER_RECEIVED (R139, R140). -/
def execCharacterReceived (line : LineId) (ch : Character) (s : State) : Result :=
  live (receive line ch) s

/-- LINE_SAMPLED_HIGH: a waiting receiver looks for a start bit again (R139, R144). -/
def execLineSampledHigh (line : LineId) (s : State) : Result :=
  live (fun s => withLine line { lineOf line s with waitHigh := false } s) s

/-! ### The transmitter -/

/-- The mirror-link transmitter at the end of a character's stop bit with more of the frame to send: where HOLD keeps it off
it pauses with the line high, and otherwise it begins the next character (R137, R138). -/
def Tx.atBoundary (held : Bool) (t : Tx) : Tx :=
  if t.paused || !t.moreToSend then t
  else if held then { t with paused := true } else { t with begun := t.begun + 1 }

/-- CHARACTER_BOUNDARY: the table's row is that of a primary's mirror link; a replica's mirror link comes to the same event
without reading HOLD (R137, R138; notes/assumptions/27.md). -/
def execCharacterBoundary (s : State) : Result :=
  live (fun s => s.withLinkLine { s.linkLine with tx := s.linkLine.tx.map (Tx.atBoundary (heldOff s)) }) s

/-- The end of a HELLO's transmission: counted for its own attempt, whose HELLO timer starts in HELLO_WAIT (R114, R115). -/
def helloSent (session : Byte) (s : State) : State :=
  if session = s.link.session ∧ s.link.state ≠ .idle then
    s.withLink { s.link with
      helloSends := s.link.helloSends + 1
      helloTimer := if s.link.state = .helloWait then startedTimer .helloTimeout s else s.link.helloTimer }
  else s

/-- The end of a sequenced frame's transmission starts a stopped ACK timer in UP while SENT entries remain and HOLD is
withdrawn (R123). -/
def sequencedSent (s : State) : State :=
  if s.link.state = .up ∧ sentRemain s = true ∧ s.holdIn = false ∧ s.link.ackTimer = none then
    s.withLink { s.link with ackTimer := startedTimer .ackTimeout s }
  else s

/-- What the end of a mirror-link frame's transmission starts (R114, R123). -/
def linkSent (f : LinkFrame) (s : State) : State :=
  match f.body with
  | .hello _ => helloSent f.session s
  | .seq _ _ => sequencedSent s
  | .welcome _ => s
  | .bye _ => s
  | .ack _ => s
  | .nak _ => s

/-- What the end of a response's transmission does: a service divisor written by its command becomes due (R136). -/
def responseSent (r : SvcResponse) (s : State) : State :=
  s.withSvcLine { s.svcLine with due := s.svcLine.due || r.divisorDue }

/-- What the end of a frame's transmission does, by what was sent (R114, R123, R136). -/
def frameSent (c : TxContent) (s : State) : State :=
  match c with
  | .link f => linkSent f s
  | .response r => responseSent r s

/-- The last stop bit of the frame on a line ends: every one of its characters has begun and it is not paused before one. The
transmitter again holds no frame (R137, R138). -/
def endTx (l : LineId) (s : State) : State :=
  match (lineOf l s).tx with
  | some t =>
    if t.paused || t.moreToSend then s
    else frameSent t.content (withLine l { lineOf l s with tx := none } s)
  | none => s

/-- TRANSMISSION_END: the last stop bit of a frame ends (R137). -/
def execTransmissionEnd (line : LineId) (s : State) : Result :=
  live (endTx line) s

/-- A half takes a pending divisor that is due, if the half is idle: a transmitter that holds no frame, a receiver in HUNT with
no character under reception (R136). -/
def takeDivisor (h : Half) (x : Line) : Line :=
  match h with
  | .transmitter =>
    if x.due && x.tx.isNone then
      match x.txPending with
      | some v => { x with txDivisor := v, txPending := none }
      | none => x
    else x
  | .receiver underReception =>
    if x.due && x.collected.isNone && !underReception then
      match x.rxPending with
      | some v => { x with rxDivisor := v, rxPending := none }
      | none => x
    else x

/-- DIVISOR_TAKE_EFFECT (R136). -/
def execDivisorTakeEffect (line : LineId) (half : Half) (s : State) : Result :=
  live (fun s => withLine line (takeDivisor half (lineOf line s)) s) s

/-- The oldest built response begins transmission when the service transmitter is free (R189). -/
def sendResponse (s : State) : State :=
  match s.svcLine.tx, s.port.responses with
  | none, r :: rest =>
    (s.withPort { s.port with responses := rest }).withSvcLine { s.svcLine with tx := beginTx (.response r) }
  | _, _ => s

/-- RESPONSE_TRANSMIT_START (R189). -/
def execResponseTransmitStart (s : State) : Result :=
  live sendResponse s

end Sys2Proof.Machine
end

