-- ==== Sys2Proof/Machine/ReplicaUnit.lean ====
section
/-! DEFINITION. The meanings of the replica apply unit's steps: frames taken, applies started, the WELCOME sent, replies
begun (chapter 8). -/
namespace Sys2Proof.Machine

/-- A HELLO of the current session is one sent again: a WELCOME ACCEPT is repeated unless one is pending (R153). -/
def helloAgain (session : Byte) (s : State) : State :=
  if s.replica.welcomePending then s else s.withReplica (s.replica.sendWelcome session .accept)

/-- A HELLO taken in LISTENING or SESSION (R151, R153, R154). -/
def helloArrived (session : Byte) (h : HelloBody) (s : State) : State :=
  match s.replica.state with
  | .session =>
    if session = s.replica.session then helloAgain session s
    else judgeHello session h (leaveSession none .listening s)
  | .listening => judgeHello session h s
  | .off => s

/-- HELLO_TAKEN: a HELLO taken by a part in the replica role (R111, R150 to R154). -/
def execHelloTaken (session : Byte) (hello : HelloBody) (s : State) : Result :=
  live (fun s =>
    match s.role with
    | .replica =>
      takeFrame { session := session, body := .hello hello } (helloArrived session hello) s
    | .primary => s) s

/-- The page an in-order DATA or PAGE frame must have inside a valid MIRROR entry (R156). -/
def framePage : SeqBody → Option Nat
  | .data addr _ _ => some (pageOf addr)
  | .page page _ _ => some page.toNat
  | .mark _ _ => none
  | .done _ _ => none

/-- An in-order frame that passed R156 joins the apply queue, or is an overrun (R155, R158, R161). -/
def enqueue (n : SeqNum) (b : SeqBody) (region : Option (Fin 32)) (s : State) : State :=
  if s.replica.queue.length < Config.applyPlaces then
    s.withReplica { s.replica with
      queue := s.replica.queue ++ [{ seq := n, body := b, region := region, started := false }],
      expected := s.replica.expected + 1, nakOutstanding := false, nakDue := false,
      hold := holdLevel (s.replica.queue.length + 1) s.replica.hold }
  else noteGap (discard .overrun s)

/-- An in-order frame: the region check, then the queue (R155, R156). -/
def inOrder (n : SeqNum) (b : SeqBody) (s : State) : State :=
  match framePage b with
  | none => enqueue n b none s
  | some p =>
    match mirrorRegionAt s.regions p with
    | some i => enqueue n b (some i) s
    | none => leaveSession (some .protocol) .listening (discard .region s)

/-- A frame behind the expected sequence is answered with an ACK (R159). -/
def duplicateFrame (s : State) : State :=
  let t := discard .duplicate s
  t.withReplica t.replica.sendAck

/-- A sequenced frame of the current session, by its distance from the expected sequence (R155, R157, R159). -/
def sequencedArrived (n : SeqNum) (b : SeqBody) (s : State) : State :=
  let d := (n - s.replica.expected).toNat
  if d = 0 then inOrder n b s
  else if d ≤ 32767 then noteGap (discard .ahead s)
  else duplicateFrame s

/-- SEQUENCED_FRAME_TAKEN (R111, R150, R155). -/
def execSequencedFrameTaken (session : Byte) (n : SeqNum) (body : SeqBody) (s : State) : Result :=
  live (takeFrame { session := session, body := .seq n body } (sequencedArrived n body)) s

/-- REPLICA_BYE_TAKEN: a BYE taken by a part in the replica role; the session is left without a BYE (R150, R169). -/
def execReplicaByeTaken (session : Byte) (reason : ByeReason) (s : State) : Result :=
  live (fun s =>
    match s.role with
    | .replica =>
      takeFrame { session := session, body := .bye reason } (leaveSession none .listening) s
    | .primary => s) s

/-- The writes a frame hands over at its start, in line order (R162). -/
def applyWrites : SeqBody → List OwnRequest
  | .data addr be bytes => [{ use := .apply 0, kind := .write, addr := addr, be := be, data := bytes }]
  | .page page chunk bytes =>
    (List.finRange 4).map (fun k =>
      { use := .apply k, kind := .write, addr := chunkLineAddr page.toNat chunk.val k.val, be := allEnabled,
        data := (bytes.drop (64 * k.val)).take 64 })
  | .mark _ _ => []
  | .done _ _ => []

/-- The start of a PAGE frame moves CONSISTENT to CATCHING (R167). -/
def consistencyAtStart (b : SeqBody) (c : Consistency) : Consistency :=
  match b, c with
  | .page _ _ _, .consistent => .catching
  | _, c => c

/-- A DATA or PAGE frame is started: its writes are handed over together (R94, R162, R167). -/
def startWrites (f : QueuedFrame) (rest : List QueuedFrame) (ws : List OwnRequest) (s : State) : State :=
  (s.withReplica { s.replica with
    queue := { f with started := true } :: rest,
    applying := some { remaining := ws.length, firstError := none, region := f.region },
    consistency := consistencyAtStart f.body s.replica.consistency }).withPath (s.path.handOver ws)

/-- The oldest frame of the apply queue is started: MARK and DONE retire at once, DATA and PAGE wait for the internal tags
their writes need (R94, R162). -/
def startFrame (f : QueuedFrame) (rest : List QueuedFrame) (s : State) : State :=
  match applyWrites f.body with
  | [] => retire f rest s
  | w :: ws =>
    if ws.length + 1 ≤ s.path.freeOwnTags.length then startWrites f rest (w :: ws) s else s

/-- The oldest unstarted frame with no apply write in flight (R162). -/
def startNext (s : State) : State :=
  match s.replica.queue with
  | f :: rest => if !f.started && s.replica.applying.isNone then startFrame f rest s else s
  | [] => s

/-- APPLY_FRAME_START (R162), once the internal tags it needs are free (notes/assumptions/17.md). -/
def execApplyFrameStart (s : State) : Result :=
  live startNext s

/-- The accepted flags act on the consistency state: exactly one of them changes it (R152, R167). -/
def flagsAct (r : Replica) : Consistency :=
  match r.catchupFollows, r.cleanStart with
  | true, false => .catching
  | false, true => .consistent
  | true, true => r.consistency
  | false, false => r.consistency

/-- The WELCOME ACCEPT of the accepted session is sent (R152). -/
def acceptSend (s : State) : State :=
  let r := s.replica.sendWelcome s.replica.session .accept
  s.withReplica { r with welcomePending := false, consistency := flagsAct s.replica }

/-- WELCOME_ACCEPT_SEND: with WELCOME pending in SESSION and no apply write in flight (R152). -/
def execWelcomeAcceptSend (s : State) : Result :=
  live (fun s =>
    if s.replica.state == .session && s.replica.welcomePending && s.replica.applying.isNone then acceptSend s
    else s) s

/-- The oldest frame of the reply list begins transmission (R165). -/
def sendReply (s : State) : State :=
  match s.replica.replies with
  | f :: rest =>
    (s.withReplica { s.replica with replies := rest }).withLinkLine { s.linkLine with tx := beginTx (.link f) }
  | [] => s

/-- REPLY_FRAME_TRANSMIT_START (R165). -/
def execReplyFrameTransmitStart (s : State) : Result :=
  live (fun s => if linkTxReady s then sendReply s else s) s

end Sys2Proof.Machine
end

