-- ==== Sys2Proof/Machine/StatusFields.lean ====
section
/-! DEFINITION. The bodies of the service responses that report state: STATUS group by group, region entries, exception
records, the marker register (R26, R35, R68, R81, R106, R132, R143, R173, R178, R180, R188, R192, R197). -/
namespace Sys2Proof.Machine

/-- A role's position (R188, R200). -/
def roleCode : Role → Nat
  | .primary => 0
  | .replica => 1

/-- A mirror state's position in R28 (R188). -/
def mirrorStateCode : MirrorState → Nat
  | .off => 0
  | .linking => 1
  | .streaming => 2
  | .catchup => 3
  | .tracking => 4
  | .draining => 5

/-- A replica state's position in R147 (R188). -/
def replicaStateCode : ReplicaState → Nat
  | .off => 0
  | .listening => 1
  | .session => 2

/-- A session state's position in R112 (R188). -/
def sessionStateCode : SessionState → Nat
  | .idle => 0
  | .helloWait => 1
  | .up => 2

/-- A link-loss cause's position in R112 (R188). -/
def causeCode : LossCause → Nat
  | .none => 0
  | .noAnswer => 1
  | .refusedRegions => 2
  | .refusedRevision => 3
  | .peerBye _ => 4
  | .cleanVoid => 5
  | .holdStuck => 6
  | .retryExhausted => 7
  | .protocol => 8

/-- The BYE reason kept with PEER_BYE (R112, R132). -/
def causeReason : LossCause → Option ByeReason
  | .peerBye r => some r
  | .none => none
  | .noAnswer => none
  | .refusedRegions => none
  | .refusedRevision => none
  | .cleanVoid => none
  | .holdStuck => none
  | .retryExhausted => none
  | .protocol => none

/-- A consistency state's position in R167 (R188). -/
def consistencyCode : Consistency → Nat
  | .unknown => 0
  | .catching => 1
  | .consistent => 2
  | .broken => 3

/-- An exception kind's position in R174 (R188). -/
def exceptionCode : ExceptionKind → Nat
  | .guardRefused => 0
  | .replicaRefused => 1
  | .badSource => 2
  | .signalMalformed => 3
  | .sweepReadFault => 4
  | .applyFault => 5

/-- A region kind's code (R197). -/
def kindCode : RegionKind → Nat
  | .mirror _ => 0
  | .guard => 1
  | .signal => 2

/-- A policy's code (R197). -/
def policyCode : Policy → Nat
  | .async => 0
  | .syncOpen => 1
  | .syncClosed => 2

/-- The session state STATUS reports: the link unit's on a primary; on a replica IDLE outside SESSION, HELLO_WAIT while
WELCOME is pending, and UP otherwise (R192). -/
def shownSession (s : State) : SessionState :=
  match s.role with
  | .primary => s.link.state
  | .replica =>
    match s.replica.state with
    | .session => if s.replica.welcomePending then .helloWait else .up
    | .listening => .idle
    | .off => .idle

/-- The session number STATUS reports (R132, R192). -/
def shownSessionNumber (s : State) : Byte :=
  match s.role with
  | .primary => s.link.session
  | .replica => s.replica.session

/-- Group 0, general (R192). -/
def statusGeneral (s : State) : List Byte :=
  beBytes 1 (roleCode s.role) ++ beBytes 1 (mirrorStateCode s.mirror.state)
    ++ beBytes 1 (replicaStateCode s.replica.state) ++ beBytes 1 (sessionStateCode (shownSession s))
    ++ [shownSessionNumber s] ++ beBytes 1 (causeCode s.link.cause)
    ++ optBytes 1 ((causeReason s.link.cause).map (fun r => [byeCode r]))
    ++ flagByte s.mirror.catchupActive
    ++ beBytes 2 s.journal.entries.length ++ beBytes 2 s.journal.slotsInUse ++ beBytes 1 s.journal.sentCount
    ++ beBytes 3 s.mirror.marks.length
    ++ optBytes 6 (s.mirror.copying.map (fun c => beBytes 4 c.page ++ beBytes 1 c.next.val ++ flagByte c.recopy))
    ++ beBytes 1 s.held.length ++ beBytes 1 (consistencyCode s.replica.consistency)
    ++ flagByte s.replica.marker.valid
    ++ beBytes 1 s.exceptions.records.length ++ flagByte s.exceptions.overflow ++ beBytes 2 s.exceptions.lost
    ++ [s.alerts.pending, s.alerts.mask] ++ flagByte s.alerts.drivenLow

/-- The timers running, one bit each (R192). -/
def timersByte (s : State) : List Byte :=
  beBytes 1 (s.link.helloTimer.isSome.toNat + 2 * s.link.ackTimer.isSome.toNat + 4 * s.link.holdTimer.isSome.toNat
    + 8 * s.link.relinkTimer.isSome.toNat + 16 * s.mirror.drainTimer.isSome.toNat)

/-- The level that the part drives on the HOLD connection (true: asserted). It drives one while it runs in the replica role;
a primary drives nothing, and neither does a part held in reset (R138, R161). -/
def holdDriven (s : State) : Option Bool :=
  match s.phase, s.role with
  | .running, .replica => some s.replica.hold
  | .running, .primary => none
  | .boardReset, _ => none
  | .powerOn, _ => none

/-- Whether HOLD is asserted: the level that the part drives, or reads where it drives none (R132, R138). -/
def holdAsserted (s : State) : Bool :=
  (holdDriven s).getD s.holdIn

/-- Group 1, mirror (R192). -/
def statusMirror (s : State) : List Byte :=
  beBytes 4 s.mirror.cursor ++ beBytes 2 s.mirror.passCount ++ beBytes 4 s.mirror.copied
    ++ beBytes 4 s.mirror.skipped ++ beBytes 2 s.mirror.drainCount ++ beBytes 1 s.journal.pledges
    ++ optBytes 1 (s.journal.reservation.map (fun r => flagByte r.cancelled))
    ++ beBytes 1 s.link.helloSends ++ beBytes 1 s.link.retry ++ flagByte (holdAsserted s) ++ timersByte s
    ++ beBytes 1 s.link.control.length

/-- The tracking entries in a state (R106). -/
def countEntries (st : EntryState) (s : State) : Nat :=
  s.path.table.toList.countP (fun t => match t with
    | .used e => e.state == st
    | .free => false
    | .stale _ _ => false)

/-- The stale memory-side tags among tracking entries (R106). -/
def staleTracking (s : State) : Nat :=
  s.path.table.toList.countP (fun t => match t with
    | .stale _ _ => true
    | .used _ => false
    | .free => false)

/-- The stale internal tags (R106). -/
def staleInternal (s : State) : Nat :=
  s.path.own.toList.countP (fun t => t == .stale)

/-- A claimant's position (R95, R188). -/
def claimantCode : Claimant → Nat
  | .host => 0
  | .internal => 1

/-- Group 2, memory path (R192). -/
def statusPath (s : State) : List Byte :=
  beBytes 1 (countEntries .queued s) ++ beBytes 1 (countEntries .inMemory s) ++ beBytes 1 (countEntries .kept s)
    ++ beBytes 1 (countEntries .answering s) ++ beBytes 1 (staleTracking s) ++ beBytes 1 (staleInternal s)
    ++ beBytes 1 (claimantCode s.path.lastGranted) ++ beBytes 1 s.path.unsettledCount

/-- The apply writes in flight (R147). -/
def inFlight (s : State) : Nat :=
  match s.replica.applying with
  | some w => w.remaining
  | none => 0

/-- Group 3, replica (R173, R192). -/
def statusReplica (s : State) : List Byte :=
  beBytes 1 (replicaStateCode s.replica.state) ++ [s.replica.session] ++ flagByte s.replica.welcomePending
    ++ flagByte s.replica.catchupFollows ++ flagByte s.replica.cleanStart ++ beBytes 1 s.replica.window
    ++ beBytes 1 (coalesceLimit s) ++ beBytes 2 s.replica.expected.toNat ++ beBytes 2 s.replica.ackPoint.toNat
    ++ flagByte s.replica.nakOutstanding ++ flagByte s.replica.nakDue ++ beBytes 1 s.replica.queue.length
    ++ beBytes 1 (inFlight s) ++ flagByte s.replica.hold ++ beBytes 1 s.replica.replies.length
    ++ beBytes 1 (consistencyCode s.replica.consistency) ++ flagByte s.replica.marker.valid

/-- A frame waits for the mirror-link transmitter, which holds none (R120, R165). -/
def frameWaits (s : State) : Bool :=
  !s.link.control.isEmpty || !s.replica.replies.isEmpty
    || (s.link.state == .up && (s.journal.take (param .window s)).isSome)

/-- A primary's mirror-link transmitter is paused under HOLD: in the middle of a frame, or before the first character of
one that waits (R138, R143). -/
def linkTxPaused (s : State) : Bool :=
  heldOff s && (match s.linkLine.tx with
    | some t => t.paused
    | none => frameWaits s)

/-- The fields of one line in group 4; `w` is how many bytes the count of collected bytes takes (R136, R143, R192). -/
def statusLine (w : Nat) (paused : Bool) (x : Line) : List Byte :=
  flagByte x.collected.isSome ++ beBytes w (x.collected.getD []).length ++ flagByte x.tx.isSome ++ flagByte paused
    ++ beBytes 2 x.txDivisor ++ beBytes 2 x.rxDivisor
    ++ optBytes 2 ((x.txPending.or x.rxPending).map (beBytes 2))

/-- Group 4, lines (R192). -/
def statusLines (s : State) : List Byte :=
  statusLine 2 (linkTxPaused s) s.linkLine ++ statusLine 1 false s.svcLine

/-- The body of a STATUS response, for a group number in range (R192). -/
def statusBody (group : Nat) (s : State) : Option (List Byte) :=
  match group with
  | 0 => some (statusGeneral s)
  | 1 => some (statusMirror s)
  | 2 => some (statusPath s)
  | 3 => some (statusReplica s)
  | 4 => some (statusLines s)
  | _ => none

/-- The mirror page total and the region digest, as region commands report them (R79, R197). -/
def totalAndDigest (regions : Vector (Option Region) 32) : List Byte :=
  beBytes 3 (mirrorPageTotal regions) ++ beBytes 4 (regionDigest regions).toNat

/-- The policy of a region, present for MIRROR (R70). -/
def regionPolicy (r : Region) : Option Policy :=
  match r.kind with
  | .mirror p => some p
  | .guard => none
  | .signal => none

/-- The body of a READ_REGION response (R81, R197). -/
def regionBody (i : Fin 32) (s : State) : List Byte :=
  let r := s.regions[i]
  flagByte r.isSome ++ optBytes 4 (r.map (fun r => beBytes 4 r.base)) ++ optBytes 3 (r.map (fun r => beBytes 3 r.count))
    ++ optBytes 1 (r.map (fun r => beBytes 1 (kindCode r.kind)))
    ++ optBytes 1 ((r.bind regionPolicy).map (fun p => beBytes 1 (policyCode p)))
    ++ totalAndDigest s.regions ++ beBytes 1 s.path.unsettledCount

/-- An exception record's fields in a response (R178, R197). -/
def recordBytes (r : ExceptionRecord) : List Byte :=
  beBytes 1 (exceptionCode r.kind) ++ optBytes 1 (r.source.map (fun b => [b])) ++ beBytes 5 r.addr.toNat
    ++ optBytes 1 (r.region.map (fun i => beBytes 1 i.val)) ++ beBytes 1 r.count

/-- The body of a READ_EXCEPTION response: the oldest record if there is one, the records left, the overflow flag (R178,
R197). -/
def exceptionBody (s : State) : List Byte :=
  optBytes 11 (s.exceptions.records.head?.map recordBytes) ++ beBytes 1 s.exceptions.records.tail.length
    ++ flagByte s.exceptions.overflow

/-- The body of a READ_MARKER response (R166, R197). -/
def markerBody (s : State) : List Byte :=
  flagByte s.replica.marker.valid ++ beBytes 4 s.replica.marker.value.toNat ++ beBytes 1 s.replica.marker.region.val

end Sys2Proof.Machine
end

