-- ==== Sys2Proof/Machine/Service.lean ====
section
/-! DEFINITION. The meanings of the service commands and of rejected and dropped service frames (chapter 10; R43, R48, R49,
R54, R77 to R82, R171, R178, R179, R182 to R184). Each passes the response list and the command slot first (R189, R190). -/
namespace Sys2Proof.Machine

/-! ### Frames that are no command -/

/-- A frame answered without action: R187's rejections whatever the slot holds, and through the slot the START or STOP whose
option byte names neither form, which is refused with RANGE (R195). A frame that carries a command is none. -/
def rejectDelivery (d : Delivery) (s : State) : Option State :=
  match serviceVerdict d with
  | .reject st code => some (pushResponse { code := code, status := st, body := [], divisorDue := false } s)
  | .command code body =>
    match commandOf code body with
    | some _ => none
    | none => some (throughSlot code (respond code .range []) s)

/-- SERVICE_FRAME_REJECTED: the oldest delivery, this one, is answered if the response list has a free place, and otherwise
dropped (R142, R187, R189). -/
def execServiceFrameRejected (d : Delivery) (s : State) : Result :=
  live (takeDelivery .service (fun x s =>
    if x = d then (if freePlaces s = 0 then some (bump .serviceDropped s) else rejectDelivery x s) else none)) s

/-- SERVICE_FRAME_DROPPED: the oldest delivery finds no free place (R142, R189). -/
def execServiceFrameDropped (s : State) : Result :=
  live (takeDelivery .service (fun _ s => if freePlaces s = 0 then some (bump .serviceDropped s) else none)) s

/-! ### STATUS and parameters -/

/-- STATUS of a group (R192). -/
def doStatus (group : Byte) (s : State) : State :=
  match statusBody group.toNat s with
  | some b => respond 1 .ok b s
  | none => respond 1 .range [] s

/-- STATUS (R192). -/
def execStatus (group : Byte) (s : State) : Result :=
  serve (.status group) 1 (doStatus group) s

/-- A parameter's number and value in a response (R188, R193). -/
def paramBody (p : Param) (v : Nat) : List Byte :=
  beBytes 1 (paramNumber p).val ++ beBytes (paramBytes p) v

/-- READ_PARAM of a number (R193). -/
def doReadParam (number : Byte) (s : State) : State :=
  match paramOfNumber number.toNat with
  | some p => respond 2 .ok (paramBody p (param p s)) s
  | none => respond 2 .range [] s

/-- READ_PARAM (R193). -/
def execReadParam (number : Byte) (s : State) : Result :=
  serve (.readParam number) 2 (doReadParam number) s

/-- A divisor becomes pending for both halves of its line, replacing one that is pending (R136). -/
def Line.pend (v : Nat) (due : Bool) (x : Line) : Line :=
  { x with txPending := some v, rxPending := some v, due := due }

/-- A response that no longer makes a divisor due, because its value was replaced (R136, R194). -/
def SvcResponse.superseded (r : SvcResponse) : SvcResponse :=
  { r with divisorDue := false }

/-- What a transmitter holds, with a replaced divisor no longer due at its end (R136, R194). -/
def TxContent.superseded : TxContent → TxContent
  | .link f => .link f
  | .response r => .response r.superseded

/-- The service line and its responses forget a divisor that was not yet due (R136, R194, notes/assumptions/24.md). -/
def supersedeDivisor (s : State) : State :=
  (s.withPort { s.port with responses := s.port.responses.map SvcResponse.superseded }).withSvcLine
    { s.svcLine with tx := s.svcLine.tx.map (fun t => { t with content := t.content.superseded }) }

/-- The response of a WRITE_PARAM that is carried out (R193); a service divisor is due at its transmission's end (R136). -/
def writeResponse (p : Param) (v : Nat) : SvcResponse :=
  { code := 131, status := .ok, body := paramBody p v, divisorDue := p == .serviceDivisor }

/-- The effect of a new divisor on its line; other parameters have none (R136, R194). -/
def pendDivisor (p : Param) (v : Nat) (s : State) : State :=
  match p with
  | .linkDivisor => s.withLinkLine (s.linkLine.pend v true)
  | .serviceDivisor =>
    let t := supersedeDivisor s
    t.withSvcLine (t.svcLine.pend v false)
  | .window => s
  | .catchupReserve => s
  | .ackTimeout => s
  | .retryLimit => s
  | .helloTimeout => s
  | .helloAttempts => s
  | .relinkInterval => s
  | .holdTimeout => s
  | .drainTimeout => s
  | .ackCoalesce => s

/-- A parameter takes its new value (R193). -/
def setParam (p : Param) (v : Nat) (s : State) : State :=
  s.withParams (s.params.set (paramNumber p) v)

/-- WRITE_PARAM of a number and a value (R193, R194). -/
def doWriteParam (number : Byte) (value : BitVec 16) (s : State) : State :=
  match paramOfNumber number.toNat with
  | none => respond 3 .range [] s
  | some p =>
    if value.toNat < paramMin p ∨ paramMax p < value.toNat then respond 3 .range [] s
    else if paramOffOnly p && !ownStateOff s then respond 3 .state [] s
    else pushResponse (writeResponse p value.toNat) (pendDivisor p value.toNat (setParam p value.toNat s))

/-- WRITE_PARAM (R193). -/
def execWriteParam (number : Byte) (value : BitVec 16) (s : State) : Result :=
  serve (.writeParam number value) 3 (doWriteParam number value) s

/-! ### Region commands -/

/-- An entry of the region table changes; a change that R78 permits only in OFF makes waiting writes unsettled (R79, R82). -/
def changeRegion (i : Fin 32) (new : Option Region) (s : State) : State :=
  let t := s.withRegions (s.regions.set i new)
  if (s.regions[i]).any Region.isProtected || new.any Region.isProtected then t.withPath t.path.unsettle else t

/-- LOAD_REGION with its values in range: checks 3, 4 and 5 of R77, and then the change (R77, R79). -/
def loadChecked (i : Fin 32) (r : Region) (s : State) : State :=
  if !changePermitted s.regions[i] (some r) s then respond 4 .state [] s
  else if overlapsOther s.regions i r then respond 4 .overlap [] s
  else if r.isMirror && decide (Config.mirrorPageLimit < mirrorPageTotal (s.regions.set i (some r))) then
    respond 4 .capacity [] s
  else
    let t := changeRegion i (some r) s
    respond 4 .ok (totalAndDigest t.regions) t

/-- LOAD_REGION (R77). -/
def doLoadRegion (index : Byte) (base count : BitVec 32) (kind policy : Byte) (s : State) : State :=
  match regionIndex index, loadedRegion base count kind policy with
  | some i, some r => loadChecked i r s
  | _, _ => respond 4 .range [] s

/-- LOAD_REGION (R77). -/
def execLoadRegion (index : Byte) (base count : BitVec 32) (kind policy : Byte) (s : State) : Result :=
  serve (.loadRegion index base count kind policy) 4 (doLoadRegion index base count kind policy) s

/-- The kind an entry held, or 3 for empty, with the total and the digest after the change (R80, R197). -/
def clearBody (old : Option Region) (regions : Vector (Option Region) 32) : List Byte :=
  beBytes 1 (match old with
    | some r => kindCode r.kind
    | none => 3) ++ totalAndDigest regions

/-- CLEAR_REGION of an entry; an empty one stays empty without a change (R78, R80). -/
def clearEntry (i : Fin 32) (s : State) : State :=
  match s.regions[i] with
  | none => respond 5 .ok (clearBody none s.regions) s
  | some r =>
    if !changePermitted (some r) none s then respond 5 .state [] s
    else
      let t := changeRegion i none s
      respond 5 .ok (clearBody (some r) t.regions) t

/-- CLEAR_REGION (R80). -/
def doClearRegion (index : Byte) (s : State) : State :=
  match regionIndex index with
  | some i => clearEntry i s
  | none => respond 5 .range [] s

/-- CLEAR_REGION (R80). -/
def execClearRegion (index : Byte) (s : State) : Result :=
  serve (.clearRegion index) 5 (doClearRegion index) s

/-- READ_REGION (R81). -/
def doReadRegion (index : Byte) (s : State) : State :=
  match regionIndex index with
  | some i => respond 6 .ok (regionBody i s) s
  | none => respond 6 .range [] s

/-- READ_REGION (R81). -/
def execReadRegion (index : Byte) (s : State) : Result :=
  serve (.readRegion index) 6 (doReadRegion index) s

/-! ### Starting and stopping -/

/-- Every page of every valid MIRROR region, region by region in index order (R43, R54). -/
def allMirrorPages (s : State) : List Nat :=
  (mirrorRegions s.regions).flatMap Region.pages

/-- The primary's START: the sweep's values and the drain count at 0, the mirror state to LINKING with a new session
offered; the response joins its list at this event (R43, R192, R195). -/
def startPrimary (m : Mirror) (s : State) : State :=
  respond 7 .ok [] (enterLinking (s.withMirror
    { m with cursor := 0, passCount := 0, copied := 0, skipped := 0, drainCount := 0 }))

/-- The replica's START: listening begins (R148); the drain count is put to 0 at START (R192). -/
def startReplica (s : State) : State :=
  respond 7 .ok [] ((s.withReplica { s.replica with state := .listening }).withMirror
    { s.mirror with drainCount := 0 })

/-- START, dispatched by role: STATE outside OFF, BUSY while unsettled writes remain (R82, R195). -/
def doStart (m : State → Mirror) (s : State) : State :=
  if !ownStateOff s then respond 7 .state [] s
  else if s.path.unsettledCount ≠ 0 then respond 7 .busy [] s
  else
    match s.role with
    | .primary => startPrimary (m s) s
    | .replica => startReplica s

/-- START FULL marks every page of every valid MIRROR region and sets catch-up-active (R43). -/
def fullStart (s : State) : Mirror :=
  { s.mirror.markAll (allMirrorPages s) with catchupActive := true, cleanArmed := false }

/-- START CLEAN marks nothing and arms the clean start (R43). -/
def cleanStart (s : State) : Mirror :=
  { s.mirror with catchupActive := false, cleanArmed := true }

/-- START FULL (R43, R148, R195). -/
def execStartFull (s : State) : Result :=
  serve .startFull 7 (doStart fullStart) s

/-- START CLEAN (R43, R148, R195). -/
def execStartClean (s : State) : Result :=
  serve .startClean 7 (doStart cleanStart) s

/-- STOP NOW, dispatched by role (R48, R148, R195). A drain holds the slot, so DRAINING is not met here (R190). -/
def doStopNow (s : State) : State :=
  if ownStateOff s then respond 8 .state [] s
  else
    match s.role with
    | .primary => respond 8 .ok [] (stopPrimary s)
    | .replica => respond 8 .ok [] (stopReplica s)

/-- STOP NOW (R48, R148, R195). -/
def execStopNow (s : State) : Result :=
  serve .stopNow 8 doStopNow s

/-- STOP DRAIN taken: DRAINING, the drain count 0, the drain timer started, and the response deferred (R49, R191). -/
def beginDrain (s : State) : State :=
  (s.withMirror { s.mirror with state := .draining, drainCount := 0, drainTimer := startedTimer .drainTimeout s }).withPort
    { s.port with slot := some .stopDrain }

/-- STOP DRAIN, dispatched by role and state (R49, R195). -/
def doStopDrain (s : State) : State :=
  if s.role == .primary && s.mirror.state.capturing then beginDrain s else respond 8 .state [] s

/-- STOP DRAIN (R49, R195). -/
def execStopDrain (s : State) : Result :=
  serve .stopDrain 8 doStopDrain s

/-- ABORT while a drain is deferred: its own OK first, and then the drain ends as STOP NOW with ABORTED (R53, R191). -/
def abortDrain (s : State) : State :=
  endDrain .aborted [] (stopPrimary (respond 9 .ok [] s))

/-- ABORT by the state of the slot (R190, R191, R196). -/
def doAbort (s : State) : State :=
  match s.port.slot with
  | some .stopDrain => abortDrain s
  | some .softReset => respond 9 .busy (beBytes 1 (holderCode .softReset)) s
  | none => respond 9 .ok [] s

/-- ABORT (R189, R191, R196). -/
def execAbort (s : State) : Result :=
  takeCommand .abort (withPlace doAbort) s

/-! ### RESYNC -/

/-- The scope a RESYNC performs and the pages it marks (R54). -/
structure ResyncPlan where
  scope : Nat
  pages : List Nat
deriving DecidableEq, Repr

/-- RESYNC of a range of pages: the range itself if it lies wholly inside the MIRROR region of its base page, and
otherwise every valid MIRROR region that shares a page with it; none if the base page lies in no MIRROR region (R54). -/
def resyncPages (base count : Nat) (s : State) : Option ResyncPlan :=
  match regionAt s.regions base with
  | none => none
  | some (_, r) =>
    if !r.isMirror then none
    else if base + count ≤ r.base + r.count then some { scope := 0, pages := List.range' base count }
    else
      let range : Region := { base := base, count := count, kind := r.kind }
      some { scope := 1, pages := ((mirrorRegions s.regions).filter (fun q => q.overlaps range)).flatMap Region.pages }

/-- RESYNC of a region: every page of the valid MIRROR entry the index names, if it names one (R54). -/
def resyncRegion (i : Fin 32) (s : State) : Option ResyncPlan :=
  match s.regions[i] with
  | some r => if r.isMirror then some { scope := 1, pages := r.pages } else none
  | none => none

/-- The values of a RESYNC's scope are in range (R196, the first check). -/
def resyncInRange : ResyncScope → Bool
  | .pages base count =>
    decide (base.toNat < Config.pageLimit ∧ 1 ≤ count.toNat ∧ count.toNat ≤ 65536)
  | .region index => decide (index.toNat < 32)
  | .all => true
  | .other _ => false

/-- The region lookup of a RESYNC (R54; R196, the third check). -/
def resyncPlan (scope : ResyncScope) (s : State) : Option ResyncPlan :=
  match scope with
  | .pages base count => resyncPages base.toNat count.toNat s
  | .region index =>
    match regionIndex index with
    | some i => resyncRegion i s
    | none => none
  | .all => some { scope := 2, pages := allMirrorPages s }
  | .other _ => none

/-- RESYNC is taken in the primary role in LINKING, STREAMING, CATCHUP and TRACKING (R54). -/
def resyncTaken (s : State) : Bool :=
  s.role == .primary && (s.mirror.state == .linking || s.mirror.state == .tracking || s.mirror.state.capturing)

/-- RESYNC carried out: each page is marked, which sets catch-up-active; in STREAMING the flag is set even when no page is
marked. The response reports the scope performed and how many pages joined the map (R36, R54, R196). -/
def performResync (plan : ResyncPlan) (s : State) : State :=
  let marked := s.mirror.markAll plan.pages
  let m := if s.mirror.state = .streaming then marked.setCatchup else marked
  respond 10 .ok (beBytes 1 plan.scope ++ beBytes 3 (m.marks.length - s.mirror.marks.length)) (s.withMirror m)

/-- RESYNC by its checks in their order: ranges, role and state, region lookup (R196). -/
def doResync (scope : ResyncScope) (s : State) : State :=
  if !resyncInRange scope then respond 10 .range [] s
  else if !resyncTaken s then respond 10 .state [] s
  else
    match resyncPlan scope s with
    | some plan => performResync plan s
    | none => respond 10 .range [] s

/-- RESYNC (R54, R196). -/
def execResync (scope : ResyncScope) (s : State) : Result :=
  serve (.resync scope) 10 (doResync scope) s

/-! ### Exceptions, alerts and the marker -/

/-- READ_EXCEPTION: the oldest record is reported and removed (R178). -/
def doReadException (s : State) : State :=
  respond 11 .ok (exceptionBody s)
    (s.withExceptions { s.exceptions with records := s.exceptions.records.tail })

/-- READ_EXCEPTION (R178). -/
def execReadException (s : State) : Result :=
  serve .readException 11 doReadException s

/-- CLEAR_OVERFLOW: the lost count as it stood is reported; flag and count are cleared (R179). -/
def doClearOverflow (s : State) : State :=
  respond 12 .ok (beBytes 2 s.exceptions.lost) (s.withExceptions { s.exceptions with overflow := false, lost := 0 })

/-- CLEAR_OVERFLOW (R179). -/
def execClearOverflow (s : State) : Result :=
  serve .clearOverflow 12 doClearOverflow s

/-- READ_ALERTS (R184). -/
def doReadAlerts (s : State) : State :=
  respond 13 .ok ([s.alerts.pending, s.alerts.mask] ++ flagByte s.alerts.drivenLow) s

/-- READ_ALERTS (R184). -/
def execReadAlerts (s : State) : Result :=
  serve .readAlerts 13 doReadAlerts s

/-- ACK_ALERTS: the named causes leave the pending set, which is reported after the removal (R182). -/
def doAckAlerts (causes : Byte) (s : State) : State :=
  let p := s.alerts.pending &&& ~~~causes
  respond 14 .ok [p] (s.withAlerts { s.alerts with pending := p })

/-- ACK_ALERTS (R182). -/
def execAckAlerts (causes : Byte) (s : State) : Result :=
  serve (.ackAlerts causes) 14 (doAckAlerts causes) s

/-- SET_ALERT_MASK: the cause set becomes the mask set (R183). -/
def doSetAlertMask (causes : Byte) (s : State) : State :=
  respond 15 .ok [causes, s.alerts.pending] (s.withAlerts { s.alerts with mask := causes })

/-- SET_ALERT_MASK (R183). -/
def execSetAlertMask (causes : Byte) (s : State) : Result :=
  serve (.setAlertMask causes) 15 (doSetAlertMask causes) s

/-- READ_MARKER (R166, R197). -/
def doReadMarker (s : State) : State :=
  respond 16 .ok (markerBody s) s

/-- READ_MARKER (R197). -/
def execReadMarker (s : State) : Result :=
  serve .readMarker 16 doReadMarker s

/-! ### Counters -/

/-- READ_COUNTERS of a number (R198). -/
def doReadCounters (number : Byte) (s : State) : State :=
  if h : number.toNat < 29 then
    respond 17 .ok ([number] ++ beBytes 4 (s.counters[number.toNat])) s
  else respond 17 .range [] s

/-- READ_COUNTERS (R198). -/
def execReadCounters (number : Byte) (s : State) : Result :=
  serve (.readCounters number) 17 (doReadCounters number) s

/-- CLEAR_COUNTERS of a number, or of all with 255 (R198). -/
def doClearCounters (number : Byte) (s : State) : State :=
  if h : number.toNat < 29 then
    respond 18 .ok [] (s.withCounters (s.counters.set number.toNat 0))
  else if number = 255 then respond 18 .ok [] (s.withCounters (Vector.replicate 29 0))
  else respond 18 .range [] s

/-- CLEAR_COUNTERS (R198). -/
def execClearCounters (number : Byte) (s : State) : Result :=
  serve (.clearCounters number) 18 (doClearCounters number) s

/-! ### The role -/

/-- The role a code names, if it names one (R200). -/
def roleOfCode (b : Byte) : Option Role :=
  if b = 0 then some .primary else if b = 1 then some .replica else none

/-- SET_ROLE with its value in range: own state OFF, no request of the part's own outstanding, then the change (R200). -/
def setRoleChecked (role : Role) (s : State) : State :=
  if !ownStateOff s then respond 19 .state [] s
  else if s.path.ownOutstanding then respond 19 .busy [] s
  else respond 19 .ok (beBytes 1 (roleCode role)) (if role = s.role then s else changeRole role s)

/-- SET_ROLE (R170, R200). -/
def doSetRole (role : Byte) (s : State) : State :=
  match roleOfCode role with
  | some r => setRoleChecked r s
  | none => respond 19 .range [] s

/-- SET_ROLE (R200). -/
def execSetRole (role : Byte) (s : State) : Result :=
  serve (.setRole role) 19 (doSetRole role) s

/-- PROMOTE carried out: a session is left with BYE(PROMOTED), the replica state becomes OFF and the role PRIMARY (R171,
R201). -/
def performPromote (s : State) : State :=
  let t := match s.replica.state with
    | .session => leaveSession (some .promoted) .off s
    | .listening => s.withReplica { s.replica with state := .off }
    | .off => s
  respond 20 .ok (beBytes 1 (consistencyCode s.replica.consistency) ++ flagByte s.replica.marker.valid)
    (changeRole .primary t)

/-- PROMOTE by its checks: range, role, consistency or force, no apply write in flight (R171, R201). -/
def doPromote (force : Byte) (s : State) : State :=
  if 1 < force.toNat then respond 20 .range [] s
  else
    match s.role with
    | .primary => respond 20 .state [] s
    | .replica =>
      if s.replica.consistency ≠ .consistent ∧ force = 0 then respond 20 .notConsistent [] s
      else if s.replica.applying.isSome then respond 20 .busy [] s
      else performPromote s

/-- PROMOTE (R171, R201). -/
def execPromote (force : Byte) (s : State) : Result :=
  serve (.promote force) 20 (doPromote force) s

/-! ### SOFT_RESET -/

/-- The part's own state is stopped as STOP NOW stops it; in OFF nothing is to stop (R202). -/
def softStop (s : State) : State :=
  if ownStateOff s then s
  else
    match s.role with
    | .primary => stopPrimary s
    | .replica => stopReplica s

/-- The link unit is IDLE with its timers stopped (R112, R202). -/
def Link.quiet (l : Link) : Link :=
  { l with state := .idle, helloTimer := none, ackTimer := none, holdTimer := none, relinkTimer := none }

/-- The effects of a soft reset at its take: STOP NOW, the link unit IDLE, both receivers to HUNT, the slot held (R145,
R202). -/
def beginSoftReset (s : State) : State :=
  let t := softStop s
  let u := abandonFrame .service (abandonFrame .link (t.withLink t.link.quiet))
  u.withPort { u.port with slot := some .softReset }

/-- The soft reset is complete when no apply write is in flight: its OK joins the list and the slot becomes free (R203). -/
def completeSoftReset (s : State) : State :=
  if s.replica.applying.isNone then finishSlot 21 .ok [] s else s

/-- SOFT_RESET: with no apply write in flight it is complete at its take (R202, R203). -/
def doSoftReset (s : State) : State :=
  completeSoftReset (beginSoftReset s)

/-- SOFT_RESET (R202, R203). -/
def execSoftReset (s : State) : Result :=
  serve .softReset 21 doSoftReset s

/-- SOFT_RESET_COMPLETE: a soft reset that waits is complete once no apply write is in flight (R203). -/
def execSoftResetComplete (s : State) : Result :=
  live (fun s => match s.port.slot with
    | some .softReset => completeSoftReset s
    | some .stopDrain => s
    | none => s) s

end Sys2Proof.Machine
end

