-- ==== Sys2Proof/Machine/Sweep.lean ====
section
/-! DEFINITION. The meanings of the sweep's steps and of the normal end of a drain (R11, R12, R37, R38, R42, R51). -/
namespace Sys2Proof.Machine

/-- The sweep's pick: the first marked page at or after the cursor, or else the lowest page with the pass count raised
(R37). -/
def Mirror.pick (m : Mirror) : Mirror :=
  match m.marks.find? (fun p => decide (m.cursor ≤ p)) with
  | some p => { m with copying := some { page := p, next := 0, recopy := false } }
  | none =>
    match m.marks with
    | p :: _ => { m with copying := some { page := p, next := 0, recopy := false },
                         passCount := addSat Config.shortTop m.passCount 1 }
    | [] => m

/-- SWEEP_PICK: with the sweep running and no page COPYING, a page of the map is picked (R37). -/
def execSweepPick (s : State) : Result :=
  live (fun s => if s.mirror.sweepRuns && s.mirror.copying.isNone then s.withMirror s.mirror.pick else s) s

/-- The four line reads of a chunk in ascending address order (R38). -/
def chunkReads (page chunk : Nat) : List OwnRequest :=
  (List.finRange 4).map (fun k =>
    { use := .sweep k, kind := .read, addr := chunkLineAddr page chunk k.val, be := 0, data := [] })

/-- A chunk read is issued for the COPYING page: the reservation is created and the four reads handed over together, once
four internal tags are free (R7, R8, R38, R94). -/
def issueChunk (c : Copying) (s : State) : State :=
  match mirrorRegionAt s.regions c.page with
  | none => s
  | some i =>
    if s.journal.roomForChunk (param .catchupReserve s) && decide (4 ≤ s.path.freeOwnTags.length) then
      (s.withJournal { s.journal with
        reservation := some { page := c.page, chunk := c.next, region := i, cancelled := false, answers := [] } }).withPath
        (s.path.handOver (chunkReads c.page c.next.val))
    else s

/-- CHUNK_READ_ISSUE (R38), with four free internal tags (notes/assumptions/17.md) and a COPYING page in a MIRROR region
(notes/assumptions/19.md). -/
def execChunkReadIssue (s : State) : Result :=
  live (fun s => match s.mirror.copying with
    | some c => if s.mirror.sweepRuns then issueChunk c s else s
    | none => s) s

/-- The end of the catch-up: the DONE entry is appended READY with the totals, which return to 0; catch-up-active is
cleared, and CATCHUP becomes STREAMING (R12, R42). -/
def appendDone (s : State) : State :=
  (s.withJournal (s.journal.append (.done s.mirror.copied s.mirror.skipped) .ready)).withMirror
    { s.mirror with copied := 0, skipped := 0, catchupActive := false,
                    state := if s.mirror.state = .catchup then .streaming else s.mirror.state }

/-- DONE_ENTRY_APPEND: with the sweep running, the map empty, no reservation and a free entry place (R12, R42). -/
def execDoneEntryAppend (s : State) : Result :=
  live (fun s =>
    if s.mirror.sweepRuns && s.mirror.marks.isEmpty && s.journal.reservation.isNone && s.journal.roomForEntry then
      appendDone s
    else s) s

/-- The conditions of a drain's normal end (R51). -/
def drainDone (s : State) : Bool :=
  s.mirror.state == .draining && !s.mirror.catchupActive && s.journal.reservation.isNone && s.journal.entries.isEmpty

/-- The normal end of a drain: BYE(STOPPED), IDLE, OFF, DRAIN_END, and the deferred OK response with the drain count
(R51, R130, R191). -/
def endDrainNormally (s : State) : State :=
  endDrain .ok (beBytes 2 s.mirror.drainCount) (stopPrimary s)

/-- DRAIN_NORMAL_END (R51). -/
def execDrainNormalEnd (s : State) : Result :=
  live (fun s => if drainDone s then endDrainNormally s else s) s

end Sys2Proof.Machine
end

