-- ==== Sys2Proof/Machine/Dispatch.lean ====
section
/-! DEFINITION. The dispatch: one arm per row of spec/opcode_table.json, each one direct call of its meaning. -/
namespace Sys2Proof.Machine

def exec (i : Instr) (s : State) : Host.Outcome State Fault Refusal :=
  match i with
  | .powerOnReset => Sys2Proof.Machine.execPowerOnReset s
  | .boardResetAssert => Sys2Proof.Machine.execBoardResetAssert s
  | .boardResetRelease strapHigh => Sys2Proof.Machine.execBoardResetRelease strapHigh s
  | .hostRequestTake presented => Sys2Proof.Machine.execHostRequestTake presented s
  | .memorySideGrant => Sys2Proof.Machine.execMemorySideGrant s
  | .memoryResponse source tag status data => Sys2Proof.Machine.execMemoryResponse source tag status data s
  | .hostResponsePassBack => Sys2Proof.Machine.execHostResponsePassBack s
  | .sweepPick => Sys2Proof.Machine.execSweepPick s
  | .chunkReadIssue => Sys2Proof.Machine.execChunkReadIssue s
  | .doneEntryAppend => Sys2Proof.Machine.execDoneEntryAppend s
  | .drainNormalEnd => Sys2Proof.Machine.execDrainNormalEnd s
  | .holdAsserted => Sys2Proof.Machine.execHoldAsserted s
  | .holdWithdrawn => Sys2Proof.Machine.execHoldWithdrawn s
  | .helloTimerExpiry => Sys2Proof.Machine.execHelloTimerExpiry s
  | .ackTimerExpiry => Sys2Proof.Machine.execAckTimerExpiry s
  | .holdTimerExpiry => Sys2Proof.Machine.execHoldTimerExpiry s
  | .relinkTimerExpiry => Sys2Proof.Machine.execRelinkTimerExpiry s
  | .drainTimerExpiry => Sys2Proof.Machine.execDrainTimerExpiry s
  | .characterReceived line ch => Sys2Proof.Machine.execCharacterReceived line ch s
  | .frameDiscarded d => Sys2Proof.Machine.execFrameDiscarded d s
  | .helloRoleConflict session => Sys2Proof.Machine.execHelloRoleConflict session s
  | .welcomeTaken session result => Sys2Proof.Machine.execWelcomeTaken session result s
  | .byeTaken session reason => Sys2Proof.Machine.execByeTaken session reason s
  | .ackTaken session n => Sys2Proof.Machine.execAckTaken session n s
  | .nakTaken session n => Sys2Proof.Machine.execNakTaken session n s
  | .helloTaken session hello => Sys2Proof.Machine.execHelloTaken session hello s
  | .sequencedFrameTaken session n body => Sys2Proof.Machine.execSequencedFrameTaken session n body s
  | .replicaByeTaken session reason => Sys2Proof.Machine.execReplicaByeTaken session reason s
  | .applyFrameStart => Sys2Proof.Machine.execApplyFrameStart s
  | .welcomeAcceptSend => Sys2Proof.Machine.execWelcomeAcceptSend s
  | .linkFrameTransmitStart => Sys2Proof.Machine.execLinkFrameTransmitStart s
  | .replyFrameTransmitStart => Sys2Proof.Machine.execReplyFrameTransmitStart s
  | .responseTransmitStart => Sys2Proof.Machine.execResponseTransmitStart s
  | .transmissionEnd line => Sys2Proof.Machine.execTransmissionEnd line s
  | .divisorTakeEffect line half => Sys2Proof.Machine.execDivisorTakeEffect line half s
  | .serviceFrameRejected d => Sys2Proof.Machine.execServiceFrameRejected d s
  | .serviceFrameDropped => Sys2Proof.Machine.execServiceFrameDropped s
  | .status group => Sys2Proof.Machine.execStatus group s
  | .readParam number => Sys2Proof.Machine.execReadParam number s
  | .writeParam number value => Sys2Proof.Machine.execWriteParam number value s
  | .loadRegion index base count kind policy => Sys2Proof.Machine.execLoadRegion index base count kind policy s
  | .clearRegion index => Sys2Proof.Machine.execClearRegion index s
  | .readRegion index => Sys2Proof.Machine.execReadRegion index s
  | .startFull => Sys2Proof.Machine.execStartFull s
  | .startClean => Sys2Proof.Machine.execStartClean s
  | .stopNow => Sys2Proof.Machine.execStopNow s
  | .stopDrain => Sys2Proof.Machine.execStopDrain s
  | .abort => Sys2Proof.Machine.execAbort s
  | .resync scope => Sys2Proof.Machine.execResync scope s
  | .readException => Sys2Proof.Machine.execReadException s
  | .clearOverflow => Sys2Proof.Machine.execClearOverflow s
  | .readAlerts => Sys2Proof.Machine.execReadAlerts s
  | .ackAlerts causes => Sys2Proof.Machine.execAckAlerts causes s
  | .setAlertMask causes => Sys2Proof.Machine.execSetAlertMask causes s
  | .readMarker => Sys2Proof.Machine.execReadMarker s
  | .readCounters number => Sys2Proof.Machine.execReadCounters number s
  | .clearCounters number => Sys2Proof.Machine.execClearCounters number s
  | .setRole role => Sys2Proof.Machine.execSetRole role s
  | .promote force => Sys2Proof.Machine.execPromote force s
  | .softReset => Sys2Proof.Machine.execSoftReset s
  | .softResetComplete => Sys2Proof.Machine.execSoftResetComplete s
  | .lineSampledHigh line => Sys2Proof.Machine.execLineSampledHigh line s
  | .characterBoundary => Sys2Proof.Machine.execCharacterBoundary s
  | .powerOnResetEnd strapHigh => Sys2Proof.Machine.execPowerOnResetEnd strapHigh s

end Sys2Proof.Machine
end

