-- ==== Sys2Proof/Safety.lean ====
section
/-! DEFINITION. What counts as a safe state of the part: the invariants that the manual states of its blocks, as
decidable conditions on plain data. Claims about runs are made in these terms. -/
namespace Sys2Proof.Safety

open Sys2Proof.Machine

/-! ### The exception list and the region table -/

/-- The exception list holds at most 16 records, each with a repeat count of 1 to 255, and the lost count is above 0 exactly
while the overflow flag is set (R174, R176, R179). -/
abbrev ExceptionsOk (s : State) : Prop :=
  s.exceptions.records.length ≤ 16 ∧ (s.exceptions.overflow = true ↔ 0 < s.exceptions.lost)
    ∧ s.exceptions.lost ≤ 65535 ∧ ∀ r ∈ s.exceptions.records, 1 ≤ r.count ∧ r.count ≤ 255

/-- The bounds of a valid entry: 1 to 65,536 pages, ending at or before page 2^28 - 1 (R70). -/
abbrev regionInBounds (r : Region) : Prop :=
  1 ≤ r.count ∧ r.count ≤ 65536 ∧ r.base + r.count ≤ 268435456

/-- Every valid entry is within bounds, no two valid entries share a page, and the MIRROR entries cover at most 65,536
pages together (R70). -/
abbrev RegionsOk (s : State) : Prop :=
  (∀ i : Fin 32, ∀ r ∈ s.regions[i], regionInBounds r)
    ∧ (∀ i j : Fin 32, i ≠ j → ∀ r ∈ s.regions[i], ∀ q ∈ s.regions[j], r.overlaps q = false)
    ∧ mirrorPageTotal s.regions ≤ 65536

/-- Every parameter lies in its range (R194). -/
def ParamsOk (s : State) : Prop :=
  ∀ p : Param, paramMin p ≤ param p s ∧ param p s ≤ paramMax p

/-! ### The session, the mirror state, the role and the command slot -/

/-- The session state that goes with each mirror state (R28, R112; the table of 2.1). -/
def sessionOf : MirrorState → SessionState
  | .off => .idle
  | .linking => .helloWait
  | .streaming => .up
  | .catchup => .up
  | .tracking => .idle
  | .draining => .up

/-- Whether the journal may hold entries in a mirror state: with a session up (the table of 2.1). -/
def hasJournal : MirrorState → Bool
  | .off => false
  | .linking => false
  | .streaming => true
  | .catchup => true
  | .tracking => false
  | .draining => true

/-- Each role keeps the other role's block in OFF (R28, R147), and so does a part held in reset (R28, R172, R204). -/
abbrev RoleOk (s : State) : Prop :=
  (s.role = .replica → s.mirror.state = .off) ∧ (s.role = .primary → s.replica.state = .off)
    ∧ (s.phase ≠ .running → s.mirror.state = .off ∧ s.replica.state = .off ∧ s.port.slot = none)

/-- The timers run where their rules let them run: HELLO in HELLO_WAIT (R115), ACK in UP with HOLD withdrawn (R123), hold
while HOLD is asserted outside IDLE (R122), relink in TRACKING (R118), drain in DRAINING (R49, R51 to R53). -/
abbrev TimersOk (s : State) : Prop :=
  (s.link.helloTimer.isSome → s.link.state = .helloWait)
    ∧ (s.link.ackTimer.isSome → s.link.state = .up ∧ s.holdIn = false)
    ∧ (s.link.holdTimer.isSome ↔ s.holdIn = true ∧ s.link.state ≠ .idle)
    ∧ (s.link.relinkTimer.isSome ↔ s.mirror.state = .tracking)
    ∧ (s.mirror.drainTimer.isSome ↔ s.mirror.state = .draining)

/-- A drain and STOP DRAIN's hold of the slot go together (R49, R191), a waiting soft reset finds both blocks OFF (R202),
and a held-back place keeps the response list within four (R189). -/
abbrev SlotOk (s : State) : Prop :=
  (s.mirror.state = .draining ↔ s.port.slot = some .stopDrain)
    ∧ (s.port.slot = some .softReset → s.mirror.state = .off ∧ s.replica.state = .off)
    ∧ s.port.responses.length + (if s.port.slot.isSome then 1 else 0) ≤ 4

/-- Role, mirror state, session state, timers and command slot agree. -/
abbrev Coordinated (s : State) : Prop :=
  RoleOk s ∧ s.link.state = sessionOf s.mirror.state ∧ TimersOk s ∧ SlotOk s

/-! ### The dirty page map and the sweep -/

/-- The sweep's values in OFF (R28, R29, R34, R43). -/
abbrev sweepAtRest (m : Mirror) : Prop :=
  m.marks = [] ∧ m.copying = none ∧ m.cursor = 0 ∧ m.passCount = 0 ∧ m.copied = 0 ∧ m.skipped = 0
    ∧ m.catchupActive = false

/-- The dirty page map is a set in ascending order that holds the COPYING page (R33); catch-up-active goes with the
mirror state and with the marks (R29); a standing reservation is the COPYING page's next chunk and exists only with a
session up (R8, R38). -/
abbrev MapOk (s : State) : Prop :=
  s.mirror.marks.Pairwise (· < ·)
    ∧ (∀ c ∈ s.mirror.copying, c.page ∈ s.mirror.marks)
    ∧ (s.mirror.state = .off → sweepAtRest s.mirror)
    ∧ (s.mirror.catchupActive = false → s.mirror.marks = [])
    ∧ (s.mirror.state = .streaming → s.mirror.catchupActive = false)
    ∧ (s.mirror.state = .catchup ∨ s.mirror.state = .tracking → s.mirror.catchupActive = true)
    ∧ (s.mirror.cleanArmed = true → s.mirror.state = .linking)
    ∧ (hasJournal s.mirror.state = false → s.mirror.copying = none)
    ∧ (∀ r ∈ s.journal.reservation, r.cancelled = false → hasJournal s.mirror.state = true ∧
        ∃ c ∈ s.mirror.copying, c.page = r.page ∧ c.next = r.chunk)

/-! ### The replica apply unit -/

/-- The session's fields outside a session (R147, R149, R161). -/
abbrev sessionFieldsClear (r : Replica) : Prop :=
  r.queue = [] ∧ r.session = 0 ∧ r.welcomePending = false ∧ r.catchupFollows = false ∧ r.cleanStart = false
    ∧ r.window = 128 ∧ r.expected = 0 ∧ r.retired = 0 ∧ r.nakOutstanding = false ∧ r.nakDue = false ∧ r.hold = false

/-- The queued frames carry consecutive sequences from the acknowledgement point up to the expected sequence (R155, R160,
R163). -/
abbrev queueInOrder (r : Replica) : Prop :=
  r.queue.map QueuedFrame.seq = (List.range r.queue.length).map (fun k => r.ackPoint + BitVec.ofNat 16 k)
    ∧ r.expected = r.ackPoint + BitVec.ofNat 16 r.queue.length

/-- The replica apply unit: its fields outside a session (R147), the apply queue's order and bound (R160), the HOLD level
(R161), at most the oldest frame started and only while its writes are in flight (R162), and a NAK due only while frames
wait (R164). -/
abbrev ReplicaOk (s : State) : Prop :=
  (s.replica.state ≠ .session → sessionFieldsClear s.replica)
    ∧ (s.replica.state = .session → queueInOrder s.replica)
    ∧ s.replica.queue.length ≤ 16
    ∧ (12 ≤ s.replica.queue.length → s.replica.hold = true)
    ∧ (s.replica.queue.length ≤ 8 → s.replica.hold = false)
    ∧ (∀ f ∈ s.replica.queue.tail, f.started = false)
    ∧ (∀ f ∈ s.replica.queue.head?, f.started = true → s.replica.applying.isSome)
    ∧ (∀ w ∈ s.replica.applying, 1 ≤ w.remaining ∧ w.remaining ≤ 4)
    ∧ (s.replica.nakDue = true → s.replica.nakOutstanding = true ∧ s.replica.queue ≠ [])

/-- The reply list holds one WELCOME, one acknowledgement frame and one BYE at most, and nothing else (R165). -/
abbrev RepliesOk (s : State) : Prop :=
  s.replica.replies.countP isWelcome ≤ 1 ∧ s.replica.replies.countP isAckFrame ≤ 1
    ∧ s.replica.replies.countP isBye ≤ 1
    ∧ ∀ f ∈ s.replica.replies, isWelcome f || isAckFrame f || isBye f

/-! ### The memory path and the held completion list -/

/-- The state of a tracking entry, if it is in use (R88). -/
def slotState : TrackSlot → Option EntryState
  | .used e => some e.state
  | .free => none
  | .stale _ _ => none

/-- Whether a tracking entry is in use with a pledge (R6, R88). -/
def slotPledged : TrackSlot → Bool
  | .used e => e.pledge
  | .free => false
  | .stale _ _ => false

/-- Whether a tracking entry holds a decided response (R88). -/
def slotAnswered : TrackSlot → Bool
  | .used e => e.response.isSome
  | .free => false
  | .stale _ _ => false

/-- Whether a tracking entry waits on its held record: IN_MEMORY under the rule HELD, or KEPT (R88, R96, R99). -/
def slotHeld : TrackSlot → Bool
  | .used e => e.state == .kept || (e.state == .inMemory && e.rule == some .held)
  | .free => false
  | .stale _ _ => false

/-- The completion rule of a tracking entry in use, once it is set (R88, R96). -/
def slotRule : TrackSlot → Option CompletionRule
  | .used e => e.rule
  | .free => none
  | .stale _ _ => none

/-- A READ in use has no pledge and no completion rule (R6, R96). -/
def slotReadPlain : TrackSlot → Bool
  | .used e => e.req.kind == .write || (!e.pledge && e.rule == none)
  | .free => true
  | .stale _ _ => true

/-- Whether an internal tag waits in the internal source (R94). -/
def ownWaiting : OwnTag → Bool
  | .waiting _ => true
  | .granted _ => false
  | .free => false
  | .stale => false

/-- The host queue holds the QUEUED entries and the answer queue the ANSWERING ones, each once (R93, R102); only a QUEUED
entry has a pledge, no QUEUED one a completion rule, and every ANSWERING one its response (R88, R96); a READ has neither
pledge nor completion rule (R6, R96); the internal source holds the tags that wait for their grant (R94); every held record
keeps its own tracking entry, IN_MEMORY under the rule HELD until memory answers and KEPT from then on, and every such entry
has a record (R57, R61, R88, R96, R99). -/
abbrev PathOk (s : State) : Prop :=
  s.path.hostQueue.Nodup ∧ (∀ t : Fin 64, t ∈ s.path.hostQueue ↔ slotState s.path.table[t] = some .queued)
    ∧ s.path.answerQueue.Nodup
    ∧ (∀ t : Fin 64, t ∈ s.path.answerQueue ↔ slotState s.path.table[t] = some .answering)
    ∧ (∀ t : Fin 64, slotPledged s.path.table[t] = true → slotState s.path.table[t] = some .queued)
    ∧ (∀ t : Fin 64, slotState s.path.table[t] = some .answering → slotAnswered s.path.table[t] = true)
    ∧ (∀ t : Fin 64, slotState s.path.table[t] = some .queued → slotRule s.path.table[t] = none)
    ∧ (∀ t : Fin 64, slotReadPlain s.path.table[t] = true)
    ∧ s.path.ownQueue.Nodup ∧ (∀ t : Fin 8, t ∈ s.path.ownQueue ↔ ownWaiting s.path.own[t] = true)
    ∧ (s.held.map HeldRecord.track).Nodup
    ∧ (∀ r ∈ s.held, slotHeld s.path.table[r.track] = true
        ∧ slotState s.path.table[r.track] = some (if r.memOkay then .kept else .inMemory))
    ∧ (∀ t : Fin 64, slotHeld s.path.table[t] = true → ∃ r ∈ s.held, r.track = t)

/-! ### The journal -/

/-- The places and slots in use with every claim counted stay within 512, held records and pledges within 32, and the count
of pledges is that of the pledged tracking entries (R5, R6, R7, R56, R58). -/
abbrev RoomOk (s : State) : Prop :=
  s.journal.entries.length + s.journal.pledges + (if s.journal.reservation.isSome then 1 else 0) ≤ 512
    ∧ s.journal.entrySlots + s.journal.pledges + (if s.journal.reservation.isSome then 4 else 0) ≤ 512
    ∧ s.held.length + s.journal.pledges ≤ 32
    ∧ s.path.table.toList.countP slotPledged = s.journal.pledges

/-- The capture link of a tracking entry in use (R88). -/
def slotCapture : TrackSlot → Option Nat
  | .used e => e.capture
  | .free => none
  | .stale _ _ => none

/-- The entries are numbered below the next number, each once, and the entry that a capture link names is AWAITING that
write (R2, R9, R13, R88). -/
abbrev CapturesOk (s : State) : Prop :=
  (s.journal.entries.map JEntry.id).Nodup ∧ (∀ e ∈ s.journal.entries, e.id < s.journal.nextId)
    ∧ (∀ t : Fin 64, ∀ id ∈ slotCapture s.path.table[t], id < s.journal.nextId
        ∧ ∀ e ∈ s.journal.entries, e.id = id → e.state = .awaiting t)

/-- The SENT entries stand first and carry consecutive sequences up to the last assigned one, the send point stands at or
before the first entry that is not SENT, their number is within the window, and the journal is empty where no session is
up (R1, R16, R17, R18). -/
abbrev SendOrderOk (s : State) : Prop :=
  (s.journal.entries.map JEntry.seq? =
      (List.range s.journal.sentCount).map
        (fun k => some (s.journal.nextSeq - BitVec.ofNat 16 (s.journal.sentCount - k)))
      ++ List.replicate (s.journal.entries.length - s.journal.sentCount) none)
    ∧ s.journal.sendPoint ≤ s.journal.sentCount
    ∧ (s.journal.lastSeq = none → s.journal.sentCount = 0)
    ∧ s.journal.sentCount ≤ param .window s
    ∧ (hasJournal s.mirror.state = false → s.journal.entries = [])

/-! ### The words of the statements -/

/-- A command frame is taken and carried out: the part runs, the command slot is free and the response list has a free
place (R189, R190). -/
abbrev CommandTaken (s : State) : Prop :=
  s.phase = .running ∧ s.port.slot = none ∧ s.port.responses.length < 4

/-- `s` with a delivery at the head of what the owner of a line has to handle, before whatever else waits there (R142). -/
def handed (l : LineId) (d : Delivery) (s : State) : State :=
  withLine l { lineOf l s with delivered := d :: (lineOf l s).delivered } s

/-- A delivery on the service line carries a command: its frame passes the checks of R187 and spells it (R192 to R201). -/
abbrev Carries (d : Delivery) (c : Instr) : Prop :=
  serviceCommand d = some c

/-- Bytes with their check code behind them (R108, R186). -/
def checked (bs : List Byte) : List Byte :=
  bs ++ crcBytes bs

/-- `s` with one more response in the response list: a response code, a status and a body (R186, R189). -/
def answered (code : Byte) (status : Status) (body : List Byte) (s : State) : State :=
  { s with port := { s.port with responses := s.port.responses ++
      [{ code := code, status := status, body := body, divisorDue := false }] } }

/-- `s` with one counter one higher, held at 2^32 - 1 (R198). -/
def countedUp (c : Counter) (s : State) : State :=
  { s with counters := s.counters.set (counterNumber c) (min 4294967295 ((s.counters[counterNumber c]) + 1)) }

/-- `s` with one alert cause set pending (R182). -/
def alerted (c : AlertCause) (s : State) : State :=
  { s with alerts := { s.alerts with pending := s.alerts.pending ||| causeBit c } }

/-- The grant of the memory side falls to a WRITE at the head of the host queue (R95). -/
abbrev GrantsWrite (s : State) (t : Fin 64) (ts : List (Fin 64)) (e : TrackEntry) : Prop :=
  s.phase = .running ∧ s.path.hostQueue = t :: ts ∧ s.path.table[t] = .used e ∧ e.req.kind = .write
    ∧ (s.path.ownQueue = [] ∨ s.path.lastGranted = .internal)

/-- The memory path after the forward event of a WRITE (R87, R95, R96). -/
def grantedWrite (t : Fin 64) (ts : List (Fin 64)) (e : TrackEntry) (capture : Option Nat) (rule : CompletionRule)
    (p : Path) : Path :=
  { p with
    table := p.table.set t (.used { e with
      req := { e.req with data := [] }, pledge := false, unsettled := false, capture := capture, rule := some rule,
      state := .inMemory }),
    hostQueue := ts, lastGranted := .host,
    memOut := some { kind := .write, source := e.req.source, tag := t, addr := e.req.addr, be := e.req.be,
                     data := e.req.data } }

/-- The journal with one more entry at its new end (R1). -/
def appended (b : EntryBody) (st : JState) (j : Journal) : Journal :=
  { j with entries := j.entries ++ [{ id := j.nextId, body := b, state := st }], nextId := j.nextId + 1 }

/-- A host request that waits in memory for its answer (R97). -/
abbrev WaitsInMemory (s : State) (source : Byte) (t : Fin 64) (e : TrackEntry) : Prop :=
  source ≠ 255 ∧ s.path.table[t] = .used e ∧ e.state = .inMemory ∧ e.req.source = source

/-- The memory path with the response to a tracking entry decided: its entry ANSWERING, at the new end of the answer queue
(R102). -/
def decided (t : Fin 64) (e : TrackEntry) (status : MemStatus) (data : List Byte) (p : Path) : Path :=
  { p with
    table := p.table.set t (.used { e with
      capture := none, state := .answering, response := some { status := status, data := data } }),
    answerQueue := p.answerQueue ++ [t] }

/-- One of the part's own requests waits in memory for its answer under an internal tag (R97). -/
abbrev OwnInMemory (s : State) (tag : Fin 64) (u : Fin 8) (r : OwnRequest) : Prop :=
  tag.val = u.val ∧ s.path.own[u] = .granted r

/-- Where the sweep cursor stands after a page copied or skipped (R40). -/
def cursorAfter (page : Nat) : Nat :=
  if page + 1 = 268435456 then 0 else page + 1

/-- The pass count after a page copied or skipped (R37, R40). -/
def passesAfter (page passes : Nat) : Nat :=
  if page + 1 = 268435456 then min 65535 (passes + 1) else passes

/-- The memory path with the held writes released by policy (R63, R64, R100): a record whose memory status is OKAY has its
response decided, in list order; one that still waits for memory has its verdict left as its completion rule. -/
def releasedPath (s : State) : Path :=
  (s.held.foldl releaseOne s.path).dropCaptures

/-- The journal emptied as a whole: no entry, the send point at the new end, no sequence assigned, a standing reservation
cancelled, pledges kept (R8, R23, R24). -/
def emptied (j : Journal) : Journal :=
  { j with entries := [], sendPoint := 0, lastSeq := none,
           reservation := j.reservation.map (fun r => { r with cancelled := true }) }

/-- `s` after an attempt lost in HELLO_WAIT (R45, R117): IDLE, the cause kept, no HELLO waiting, the relink timer running,
TRACKING with catch-up-active set. -/
def attemptOver (cause : LossCause) (s : State) : State :=
  { s with
    link := { s.link with
      state := .idle, cause := cause, control := s.link.control.filter (fun f => !isHello f), helloTimer := none,
      holdTimer := none, relinkTimer := some (param .relinkInterval s) },
    mirror := { s.mirror with
      state := .tracking, catchupActive := true, cleanArmed := false,
      cursor := if s.mirror.catchupActive then s.mirror.cursor else 0,
      passCount := if s.mirror.catchupActive then s.mirror.passCount else 0 } }

/-- `s` with a new session offered (R113, R114, R122): the next session number, HELLO_WAIT, the counts and the cause
cleared, a HELLO at the new end of the control queue, and the hold timer running if HOLD is asserted. -/
def offered (s : State) : State :=
  let n : Byte := if s.link.session = 255 then 1 else s.link.session + 1
  let h : HelloBody := { digest := regionDigest s.regions, flags := if s.mirror.catchupActive then 1 else 2,
                         window := BitVec.ofNat 8 (param .window s), revision := 1 }
  { s with
    mirror := { s.mirror with state := .linking }, journal := { s.journal with lastSeq := none },
    link := { s.link with
      state := .helloWait, session := n, helloSends := 0, retry := 0, cause := .none, hello := some h,
      relinkTimer := none, holdTimer := if s.holdIn then some (param .holdTimeout s) else none,
      control := s.link.control ++ [{ session := n, body := .hello h }] } }

/-- The page of a journal entry that conversion marks: of a DATA entry's line, or a PAGE entry's own (R23). -/
def convertedPage (e : JEntry) : Option Nat :=
  match e.body with
  | .data addr _ _ _ _ => some (addr.toNat / 4096)
  | .page p _ _ _ => some p
  | .mark _ _ _ => none
  | .done _ _ => none

/-- A MARK entry of the journal (R2). -/
def isMarkEntry (e : JEntry) : Bool :=
  match e.body with
  | .mark _ _ _ => true
  | .data _ _ _ _ _ => false
  | .page _ _ _ _ => false
  | .done _ _ => false

/-- The figures of a DONE entry, pages copied and pages skipped (R2, R42). -/
def doneFigures (e : JEntry) : Nat × Nat :=
  match e.body with
  | .done copied skipped => (copied, skipped)
  | .data _ _ _ _ _ => (0, 0)
  | .mark _ _ _ => (0, 0)
  | .page _ _ _ _ => (0, 0)

/-- What a session lost in UP leaves in STREAMING and CATCHUP (R23, R29, R46, R129): the session IDLE with its cause and
LINK_LOST set, the journal emptied with held writes released by policy, TRACKING with catch-up-active set, no page COPYING,
the page of every DATA and PAGE entry marked beside the marks that stood, every MARK entry counted as a dropped marker, and
the figures of every DONE entry added back to the catch-up totals. The cursor and the pass count are kept where catch-up-active
was set, and 0 where it was clear; the drain count and the clean start are as they were. -/
abbrev SessionConverted (cause : LossCause) (s t : State) : Prop :=
  t = { s with
      path := releasedPath s, journal := emptied s.journal, held := [], counters := t.counters, mirror := t.mirror,
      alerts := { s.alerts with pending := s.alerts.pending ||| 1 },
      link := { s.link with state := .idle, retry := 0, cause := cause, ackTimer := none, holdTimer := none,
                            relinkTimer := some (param .relinkInterval s) } }
    ∧ t.mirror = { s.mirror with
        state := .tracking, catchupActive := true, copying := none, marks := t.mirror.marks,
        copied := t.mirror.copied, skipped := t.mirror.skipped,
        cursor := if s.mirror.catchupActive then s.mirror.cursor else 0,
        passCount := if s.mirror.catchupActive then s.mirror.passCount else 0 }
    ∧ (s.mirror.copied ≤ 4294967295 → t.mirror.copied =
        min 4294967295 (s.mirror.copied + (s.journal.entries.map (fun e => (doneFigures e).1)).sum))
    ∧ (s.mirror.skipped ≤ 4294967295 → t.mirror.skipped =
        min 4294967295 (s.mirror.skipped + (s.journal.entries.map (fun e => (doneFigures e).2)).sum))
    ∧ (∀ p : Nat, p ∈ t.mirror.marks ↔ p ∈ s.mirror.marks ∨ ∃ e ∈ s.journal.entries, convertedPage e = some p)
    ∧ (s.mirror.marks.Pairwise (· < ·) → t.mirror.marks.Pairwise (· < ·))
    ∧ (s.counters[0] ≤ 4294967295 →
        t.counters = s.counters.set 0 (min 4294967295 (s.counters[0] + s.journal.entries.countP isMarkEntry)))

/-- `s` after a session lost in DRAINING (R24, R52, R129, R191): journal and map emptied without conversion, OFF, LINK_LOST and
DRAIN_END set, and STOP DRAIN's deferred response LINK_LOST in the response list. -/
def drainLost (cause : LossCause) (s : State) : State :=
  { s with
    path := releasedPath s, journal := emptied s.journal, held := [],
    mirror := { Mirror.reset with drainCount := s.mirror.drainCount },
    alerts := { s.alerts with pending := s.alerts.pending ||| 1 ||| 8 },
    link := { s.link with state := .idle, retry := 0, cause := cause, ackTimer := none, holdTimer := none },
    port := { slot := none, responses := s.port.responses ++
      [{ code := 136, status := .linkLost, body := [], divisorDue := false }] } }

/-- A session lost in UP, by the mirror state it is lost in (R46, R52, R129). -/
abbrev SessionOver (cause : LossCause) (s t : State) : Prop :=
  (s.mirror.state = .streaming ∨ s.mirror.state = .catchup → SessionConverted cause s t)
    ∧ (s.mirror.state = .draining → t = drainLost cause s)

/-- `s` after STOP NOW in the primary role (R24, R34, R48, R130): journal and map emptied without conversion, held writes
released by policy, OFF, the session IDLE with every timer stopped, and BYE(STOPPED) placed if it was UP. -/
def stoppedNow (s : State) : State :=
  { s with
    path := releasedPath s, journal := emptied s.journal, held := [],
    mirror := { Mirror.reset with drainCount := s.mirror.drainCount },
    link := { s.link with
      state := .idle, retry := 0, helloTimer := none, ackTimer := none, holdTimer := none, relinkTimer := none,
      control := s.link.control.filter (fun f => !isHello f)
        ++ (if s.link.state = .up then [{ session := s.link.session, body := .bye .stopped }] else []) } }

/-- `s` with the deferred response of STOP DRAIN sent and DRAIN_END set (R51, R53, R191). -/
def drainEnded (status : Status) (body : List Byte) (s : State) : State :=
  { s with
    alerts := { s.alerts with pending := s.alerts.pending ||| 8 },
    port := { slot := none, responses := s.port.responses ++
      [{ code := 136, status := status, body := body, divisorDue := false }] } }

/-- `s` after the `d` oldest entries were removed on an acknowledgement (R21, R22, R42, R62, R123): held writes among them
released with OKAY in list order, CATCHUP_DONE for a DONE entry, the ACK timer started again or stopped. -/
def removedOldest (d : Nat) (s : State) : State :=
  let ids := ((s.journal.entries.take d).filter JEntry.isHeld).map JEntry.id
  { s with
    journal := { s.journal with entries := s.journal.entries.drop d, sendPoint := s.journal.sendPoint - d },
    held := s.held.filter (fun r => !ids.contains r.entry),
    path := (s.held.filter (fun r => ids.contains r.entry)).foldl
      (fun p r => p.answer r.track { status := .okay, data := [] }) s.path,
    alerts := if (s.journal.entries.take d).any JEntry.isDone
      then { s.alerts with pending := s.alerts.pending ||| 4 } else s.alerts,
    link := { s.link with ackTimer :=
      if 0 < (s.journal.entries.drop d).countP JEntry.isSent ∧ s.holdIn = false then some (param .ackTimeout s)
      else none } }

/-- A part in the primary role whose session is UP takes an ACK or NAK of that session (R111, R124). -/
abbrev TakesAck (session : Byte) (s : State) : Prop :=
  s.phase = .running ∧ s.role = .primary ∧ s.link.state = .up ∧ session = s.link.session

/-- `s` after the replica left its session (R149): the session's fields cleared, acknowledgement frames removed from the
reply list and a BYE added there if one is sent, HOLD withdrawn, and the frames not started counted under FLUSHED. -/
def sessionLeft (bye : Option ByeReason) (dest : ReplicaState) (s : State) : State :=
  { s with
    replica := { s.replica with
      state := dest, session := 0, welcomePending := false, catchupFollows := false, cleanStart := false, window := 128,
      expected := 0, retired := 0, nakOutstanding := false, nakDue := false, queue := [], hold := false,
      replies :=
        let kept := s.replica.replies.filter (fun f => !isAckFrame f)
        match bye with
        | some reason =>
          if kept.any isBye then kept else kept ++ [{ session := s.replica.session, body := .bye reason }]
        | none => kept },
    counters := s.counters.set 17
      (min 4294967295 (s.counters[17] + s.replica.queue.countP (fun f => !f.started))) }

/-- A part in the replica role takes a frame of its session (R150). -/
abbrev TakesInSession (session : Byte) (s : State) : Prop :=
  s.phase = .running ∧ s.role = .replica ∧ s.replica.state = .session ∧ session = s.replica.session

/-- The reply list with an acknowledgement frame: in the place of one that waits, or at the new end (R165). -/
def withAckFrame (f : LinkFrame) (rs : List LinkFrame) : List LinkFrame :=
  if rs.any isAckFrame then rs.map (fun g => if isAckFrame g then f else g) else rs ++ [f]

/-- The replica apply unit with an ACK handed over (R164). -/
def ackHanded (r : Replica) : Replica :=
  { r with replies := withAckFrame { session := r.session, body := .ack r.ackPoint } r.replies, retired := 0 }

/-- The replica apply unit with a NAK handed over (R164). -/
def nakHanded (r : Replica) : Replica :=
  { r with replies := withAckFrame { session := r.session, body := .nak r.expected } r.replies, retired := 0,
           nakDue := false }

/-- The acknowledgement after a retirement, with the coalesce limit (R164). -/
def acknowledged (limit : Nat) (r : Replica) : Replica :=
  if r.queue = [] ∧ r.nakDue = true then nakHanded r
  else if r.queue = [] ∨ limit ≤ r.retired then ackHanded r else r

/-- The oldest frame of the apply queue leaves it at its retirement (R161, R163). -/
def retired (f : QueuedFrame) (rest : List QueuedFrame) (r : Replica) : Replica :=
  { r with queue := rest, ackPoint := f.seq + 1, retired := r.retired + 1,
           hold := if 12 ≤ rest.length then true else if rest.length ≤ 8 then false else r.hold }

/-- The oldest frame of the apply queue can be started (R162). -/
abbrev Startable (f : QueuedFrame) (rest : List QueuedFrame) (s : State) : Prop :=
  s.phase = .running ∧ s.replica.queue = f :: rest ∧ f.started = false ∧ s.replica.applying = none

/-- The header bytes of a frame on a line, before its body (R107, R186). -/
def headerLength : LineId → Nat
  | .link => 6
  | .service => 2

/-- The longest body of a frame on a line (R141). -/
def bodyMax : LineId → Nat
  | .link => 261
  | .service => 40

/-- The body length that a frame's header gives (R107, R141, R186). -/
def bodyLength : LineId → List Byte → Nat
  | .link, bs => 256 * (bs.getD 4 0).toNat + (bs.getD 5 0).toNat
  | .service, bs => (bs.getD 1 0).toNat

/-- The bytes collected so far are not yet a whole frame, and the body is not too long (R141). -/
abbrev frameOpen (l : LineId) (bs : List Byte) : Prop :=
  bs.length < headerLength l ∨ (bodyLength l bs ≤ bodyMax l ∧ bs.length < headerLength l + bodyLength l bs + 2)

/-- The bytes collected are a complete frame (R141). -/
abbrev frameComplete (l : LineId) (bs : List Byte) : Prop :=
  bodyLength l bs ≤ bodyMax l ∧ bs.length = headerLength l + bodyLength l bs + 2

/-- The bytes collected are the header of a frame whose body is too long (R141). -/
abbrev headerOversize (l : LineId) (bs : List Byte) : Prop :=
  bs.length = headerLength l ∧ bodyMax l < bodyLength l bs

/-- A character judged good: its stop bit high and its data, mark and parity bits holding an even number of highs (R139). -/
abbrev goodChar (c : Character) : Prop :=
  c.stop = true ∧ Character.parityOk c = true

/-- A service frame that a part receives is answered: the part runs and the response list has a free place, one of its four
being kept for a response that is deferred (R189). -/
abbrev ResponseFits (s : State) : Prop :=
  s.phase = .running ∧ s.port.responses.length + (if s.port.slot.isSome then 1 else 0) < 4

/-- `s` after a soft reset stopped the part's own side as STOP NOW stops it; in OFF there is nothing to stop (R48, R148,
R202). -/
def softStopped (s : State) : State :=
  if ownStateOff s then s
  else if s.role = .primary then stoppedNow s
  else if s.replica.state = .session then sessionLeft (some .stopped) .off s
  else { s with replica := { s.replica with state := .off } }

/-- `s` after the effects of a soft reset at its take, the command slot aside (R145, R202): its own side stopped, the link unit
IDLE with its timers stopped, and both receivers in HUNT, a frame under collection being counted as abandoned. -/
def softReset (s : State) : State :=
  let u := softStopped s
  let v := if s.linkLine.collected.isSome then countedUp (.line .link .abandoned) u else u
  let w := if s.svcLine.collected.isSome then countedUp (.line .service .abandoned) v else v
  { w with
    link := { u.link with state := .idle, helloTimer := none, ackTimer := none, holdTimer := none, relinkTimer := none },
    linkLine := { s.linkLine with collected := none }, svcLine := { s.svcLine with collected := none } }

/-- The code of a command's row in the command table; none for the steps that are no command, and none for ABORT, which
passes the slot (R190, R195 to R201). -/
def slottedCode : Instr → Option Byte
  | .status _ => some 1
  | .readParam _ => some 2
  | .writeParam _ _ => some 3
  | .loadRegion _ _ _ _ _ => some 4
  | .clearRegion _ => some 5
  | .readRegion _ => some 6
  | .startFull => some 7
  | .startClean => some 7
  | .stopNow => some 8
  | .stopDrain => some 8
  | .resync _ => some 10
  | .readException => some 11
  | .clearOverflow => some 12
  | .readAlerts => some 13
  | .ackAlerts _ => some 14
  | .setAlertMask _ => some 15
  | .readMarker => some 16
  | .readCounters _ => some 17
  | .clearCounters _ => some 18
  | .setRole _ => some 19
  | .promote _ => some 20
  | .softReset => some 21
  | .powerOnReset => none
  | .boardResetAssert => none
  | .boardResetRelease _ => none
  | .hostRequestTake _ => none
  | .memorySideGrant => none
  | .memoryResponse _ _ _ _ => none
  | .hostResponsePassBack => none
  | .sweepPick => none
  | .chunkReadIssue => none
  | .doneEntryAppend => none
  | .drainNormalEnd => none
  | .holdAsserted => none
  | .holdWithdrawn => none
  | .helloTimerExpiry => none
  | .ackTimerExpiry => none
  | .holdTimerExpiry => none
  | .relinkTimerExpiry => none
  | .drainTimerExpiry => none
  | .characterReceived _ _ => none
  | .frameDiscarded _ => none
  | .helloRoleConflict _ => none
  | .welcomeTaken _ _ => none
  | .byeTaken _ _ => none
  | .ackTaken _ _ => none
  | .nakTaken _ _ => none
  | .helloTaken _ _ => none
  | .sequencedFrameTaken _ _ _ => none
  | .replicaByeTaken _ _ => none
  | .applyFrameStart => none
  | .welcomeAcceptSend => none
  | .linkFrameTransmitStart => none
  | .replyFrameTransmitStart => none
  | .responseTransmitStart => none
  | .transmissionEnd _ => none
  | .divisorTakeEffect _ _ => none
  | .serviceFrameRejected _ => none
  | .serviceFrameDropped => none
  | .abort => none
  | .softResetComplete => none
  | .lineSampledHigh _ => none
  | .characterBoundary => none
  | .powerOnResetEnd _ => none

end Sys2Proof.Safety
end

