-- ==== Sys2Proof/WellFormed.lean ====
section
/-! DEFINITION. Which commands are well formed: their operands lie in the ranges that the interfaces give them (R86, R87,
R107, R110, R111, R141, R196). A body value of a service command may be any byte: the command itself refuses a value out
of range with RANGE (R187), so such a value is no defect of the command. -/
namespace Sys2Proof

/-- The byte-enable set and the data fit the kind of the request: none for a READ, and for a WRITE 1 to 64 bytes and as
many data bytes (R86). -/
def requestBytesWf (req : HostRequest) : Bool :=
  match req.kind with
  | .read => req.be == 0 && req.data.isEmpty
  | .write => req.be != 0 && req.data.length == Machine.enabledCount req.be

/-- A host request names an aligned line and its bytes fit its kind (R86). -/
def requestWf (req : HostRequest) : Bool :=
  req.addr.toNat % 64 == 0 && requestBytesWf req

/-- A memory response carries the 64 bytes of a line or none (R87). -/
def responseDataWf (data : List Byte) : Bool :=
  data.length == 0 || data.length == 64

/-- A delivery on the mirror link: a frame of the length its header gives, or an oversize header (R107, R141). -/
def linkDeliveryWf : Delivery → Bool
  | .frame bs =>
    let n := Machine.ofBE [bs.getD 4 0, bs.getD 5 0]
    decide (n ≤ 261) && bs.length == 8 + n
  | .oversize h => h.length == 6 && decide (261 < Machine.ofBE [h.getD 4 0, h.getD 5 0])

/-- A delivery on the service line: a frame of the length its header gives, or an oversize header (R141, R186). -/
def serviceDeliveryWf : Delivery → Bool
  | .frame bs => decide ((bs.getD 1 0).toNat ≤ 40) && bs.length == 4 + (bs.getD 1 0).toNat
  | .oversize h => h.length == 2 && decide (40 < (h.getD 1 0).toNat)

/-- The form `other` stands for scope bytes above 2 alone (R196). -/
def scopeWf : ResyncScope → Bool
  | .other b => decide (2 < b.toNat)
  | .pages _ _ => true
  | .region _ => true
  | .all => true

/-- A well-formed command. -/
def Instr.wf (i : Instr) : Bool :=
  match i with
  | .powerOnReset => true
  | .boardResetAssert => true
  | .boardResetRelease _ => true
  | .hostRequestTake presented => presented.all requestWf
  | .memorySideGrant => true
  | .memoryResponse _ _ _ data => responseDataWf data
  | .hostResponsePassBack => true
  | .sweepPick => true
  | .chunkReadIssue => true
  | .doneEntryAppend => true
  | .drainNormalEnd => true
  | .holdAsserted => true
  | .holdWithdrawn => true
  | .helloTimerExpiry => true
  | .ackTimerExpiry => true
  | .holdTimerExpiry => true
  | .relinkTimerExpiry => true
  | .drainTimerExpiry => true
  | .characterReceived _ _ => true
  | .frameDiscarded d => linkDeliveryWf d
  | .helloRoleConflict session => decide (session ≠ 0)
  | .welcomeTaken _ _ => true
  | .byeTaken _ _ => true
  | .ackTaken _ _ => true
  | .nakTaken _ _ => true
  | .helloTaken session hello => (Machine.helloDefect session hello).isNone
  | .sequencedFrameTaken _ _ body => (Machine.seqDefect body).isNone
  | .replicaByeTaken _ _ => true
  | .applyFrameStart => true
  | .welcomeAcceptSend => true
  | .linkFrameTransmitStart => true
  | .replyFrameTransmitStart => true
  | .responseTransmitStart => true
  | .transmissionEnd _ => true
  | .divisorTakeEffect _ _ => true
  | .serviceFrameRejected d => serviceDeliveryWf d
  | .serviceFrameDropped => true
  | .status _ => true
  | .readParam _ => true
  | .writeParam _ _ => true
  | .loadRegion _ _ _ _ _ => true
  | .clearRegion _ => true
  | .readRegion _ => true
  | .startFull => true
  | .startClean => true
  | .stopNow => true
  | .stopDrain => true
  | .abort => true
  | .resync scope => scopeWf scope
  | .readException => true
  | .clearOverflow => true
  | .readAlerts => true
  | .ackAlerts _ => true
  | .setAlertMask _ => true
  | .readMarker => true
  | .readCounters _ => true
  | .clearCounters _ => true
  | .setRole _ => true
  | .promote _ => true
  | .softReset => true
  | .softResetComplete => true
  | .lineSampledHigh _ => true
  | .characterBoundary => true
  | .powerOnResetEnd _ => true

end Sys2Proof
end

