-- ==== Sys2Proof/Certificates/Slice0/Obligations.lean ====
section
/-! DEFINITION. The statements for the provers, from the numbered rules of spec/. A statement that gives the next state as
the old one with some blocks changed is the command's effect and its frame in one: every block it does not name is as it
was. Where a statement rests on a choice of the model, its docstring names the log entry. -/

open Sys2Proof Sys2Proof.Machine Sys2Proof.Safety

/-! ### Steps, resets and the role -/

/-- A step runs exec on the command at the front of the queue with the queue's rest; on an empty queue the part idles, which
is the model's choice (notes/assumptions/4.md). -/
def Obligations.StepRunsTheFrontCommand : Prop :=
  (∀ (c : Instr) (rest : List Instr) (s : State), s.pending = c :: rest →
      step s = exec c { s with pending := rest })
  ∧ ∀ s : State, s.pending = [] → step s = .next s

/-- No command stops the part: in every state each answers a next state, and it leaves the queue of commands alone. That a
command with operands no interface brings answers too (notes/assumptions/29.md), and that one whose row's conditions do not
hold answers with the state as it was (notes/assumptions/8.md), is the model's choice. -/
def Obligations.EveryCommandAnswersANextState : Prop :=
  ∀ (c : Instr) (s : State), ∃ t : State, exec c s = .next t ∧ t.pending = s.pending

/-- The state right after power-on reset meets every invariant stated below. -/
def Obligations.ResetMeetsTheInvariants : Prop :=
  ExceptionsOk State.reset ∧ RegionsOk State.reset ∧ ParamsOk State.reset ∧ Coordinated State.reset
    ∧ MapOk State.reset ∧ ReplicaOk State.reset ∧ RepliesOk State.reset ∧ PathOk State.reset ∧ RoomOk State.reset
    ∧ CapturesOk State.reset ∧ SendOrderOk State.reset

/-- Power-on reset gives every block its power-on values (R104 and each chapter's values after reset), keeping only the
queue of commands and the level at the HOLD connection, which are not the part's; its end, and the release of RST_N, sample
the ROLE strap (R199), and the release clears the stale marks of KEPT entries (R103). The role PRIMARY until the strap is
sampled (notes/assumptions/2.md), the level kept (notes/assumptions/3.md) and no host request presented
(notes/assumptions/35.md) are the model's choices. -/
def Obligations.PowerOnResetAndTheEndsOfReset : Prop :=
  (∀ s : State, exec .powerOnReset s = .next { State.reset with pending := s.pending, holdIn := s.holdIn })
  ∧ (∀ (high : Bool) (s : State), s.phase = .powerOn →
      exec (.powerOnResetEnd high) s =
        .next { s with phase := .running, role := if high then .replica else .primary })
  ∧ (∀ (high : Bool) (s : State), s.phase = .boardReset →
      exec (.boardResetRelease high) s =
        .next { s with phase := .running, role := if high then .replica else .primary,
                       path := { s.path with table := s.path.table.map (fun x =>
                         match x with
                         | .stale _ true => .free
                         | .stale src false => .stale src false
                         | .free => .free
                         | .used e => .used e) } })

/-- At its assertion board reset gives every block its power-on values except the session number, the consistency state, the
marker register, the exception list, and the tags still outstanding on the memory side, which become stale (R25, R28, R67,
R85, R103, R112, R144, R172, R180, R185, R193, R198, R204), and the host requests not yet taken, which stay presented
(R90). The role is kept until the strap is sampled and the level at the HOLD connection is kept, which are the model's choices
(notes/assumptions/2.md, notes/assumptions/3.md). -/
def Obligations.BoardResetClearsAndKeeps : Prop :=
  ∀ s : State, s.phase = .running → ∃ t : State, exec .boardResetAssert s = .next t
    ∧ t = { State.reset with
        pending := s.pending, phase := .boardReset, role := s.role, holdIn := s.holdIn, exceptions := s.exceptions,
        link := { Link.reset with session := s.link.session },
        replica := { Replica.reset with marker := s.replica.marker, consistency := s.replica.consistency },
        path := { Path.reset with intake := s.path.intake, table := t.path.table, own := t.path.own } }
    ∧ (∀ (i : Fin 64) (e : TrackEntry), s.path.table[i] = .used e →
        t.path.table[i] =
          if e.state = .inMemory then .stale e.req.source false
          else if e.state = .kept then .stale e.req.source true else .free)
    ∧ (∀ i : Fin 64, s.path.table[i] = .free → t.path.table[i] = .free)
    ∧ (∀ (i : Fin 64) (src : Byte) (k : Bool), s.path.table[i] = .stale src k → t.path.table[i] = .stale src k)
    ∧ (∀ u : Fin 8, t.path.own[u] =
        match s.path.own[u] with
        | .granted _ => .stale
        | .stale => .stale
        | .waiting _ => .free
        | .free => .free)

/-! ### The memory path -/

/-- What the take of a host request works with: the class of a page is that of the valid entry that covers it, and PASS where
none does (R71, R72); the lowest free tracking entry (R91); the writes refused at their take (R73, R74); and the writes that
need a pledge (R6). The head of intake, a request that waited or else the one presented now, is taken into the lowest free
tracking entry; unless it is refused it joins the host queue QUEUED with its class, a synchronous mirror write in STREAMING or
CATCHUP with a pledge (R58), and the request behind it becomes the head (R90). A head that finds no free tracking entry, or
needs a pledge and finds no room for it, is not taken, and every request behind it waits, a read among them (R59, R69, R92).
While the part is held in reset none is taken, and what is presented stays presented (R104). -/
def Obligations.HostRequestIsTakenAndQueued : Prop :=
  (∀ (regions : Vector (Option Region) 32) (page : Nat),
    ((∀ i : Fin 32, ∀ r ∈ regions[i], r.covers page = false) →
      regionAt regions page = none ∧ classify regions page = .pass)
    ∧ (∀ (i : Fin 32) (r : Region), regions[i] = some r → r.base ≤ page → page < r.base + r.count →
      (∀ j : Fin 32, j ≠ i → ∀ q ∈ regions[j], q.covers page = false) →
      regionAt regions page = some (i, r)
      ∧ (∀ p : Policy, r.kind = .mirror p → classify regions page = .mirror i p)
      ∧ (r.kind = .guard → classify regions page = .guard i)
      ∧ (r.kind = .signal → classify regions page = .signal i)))
  ∧ (∀ (p : Path) (t : Fin 64), p.freeEntry = some t ↔
      p.table[t] = .free ∧ ∀ u : Fin 64, u < t → p.table[u] ≠ .free)
  ∧ (∀ (kind : ReqKind) (c : ReqClass) (role : Role), refusedAtTake kind c role = true ↔
      kind = .write ∧ ((∃ i, c = .guard i) ∨ (role = .replica ∧ ∃ i p, c = .mirror i p)))
  ∧ (∀ (kind : ReqKind) (c : ReqClass) (s : State), pledgedTake kind c s = true ↔
      kind = .write ∧ (∃ i p, c = .mirror i p ∧ p ≠ .async) ∧ s.role = .primary
        ∧ (s.mirror.state = .streaming ∨ s.mirror.state = .catchup))
  ∧ (∀ (presented : Option HostRequest) (req : HostRequest) (rest : List HostRequest) (s : State),
    s.path.intake ++ presented.toList = req :: rest →
    (∀ t : Fin 64, s.phase = .running → s.path.freeEntry = some t → req.source ≠ 255 →
      refusedAtTake req.kind (classify s.regions (req.addr.toNat / 4096)) s.role = false →
      (pledgedTake req.kind (classify s.regions (req.addr.toNat / 4096)) s = true →
        1 ≤ s.journal.freeEntries ∧ 1 ≤ s.journal.freeSlots ∧ s.held.length + s.journal.pledges < 32) →
      exec (.hostRequestTake presented) s = .next { s with
        path := { s.path with
          intake := rest,
          table := s.path.table.set t (.used {
            req := req, cls := some (classify s.regions (req.addr.toNat / 4096)), role := s.role,
            pledge := pledgedTake req.kind (classify s.regions (req.addr.toNat / 4096)) s, unsettled := false,
            capture := none, rule := none, response := none, state := .queued }),
          hostQueue := s.path.hostQueue ++ [t] },
        journal := { s.journal with pledges := s.journal.pledges +
          (if pledgedTake req.kind (classify s.regions (req.addr.toNat / 4096)) s then 1 else 0) } })
    ∧ (s.phase ≠ .running ∨ s.path.freeEntry = none
        ∨ (req.source ≠ 255 ∧ pledgedTake req.kind (classify s.regions (req.addr.toNat / 4096)) s = true
            ∧ ¬(1 ≤ s.journal.freeEntries ∧ 1 ≤ s.journal.freeSlots ∧ s.held.length + s.journal.pledges < 32)) →
      exec (.hostRequestTake presented) s = .next { s with path := { s.path with intake := req :: rest } }))
  ∧ (∀ s : State, s.path.intake = [] → exec (.hostRequestTake none) s = .next s)

/-- A write to a GUARD region, or in the replica role to a MIRROR region, is answered ERROR at its take and reported (R73 to
R75); a request with source 255 is answered ERROR unclassified and reported as BAD_SOURCE (R91). The request behind it becomes
the head of intake (R90). -/
def Obligations.RefusedRequestIsAnsweredAtItsTake : Prop :=
  ∀ (presented : Option HostRequest) (req : HostRequest) (rest : List HostRequest) (s : State) (t : Fin 64),
    s.path.intake ++ presented.toList = req :: rest → s.phase = .running → s.path.freeEntry = some t →
    (∀ (i : Fin 32) (r : Region), req.source ≠ 255 → req.kind = .write →
      regionAt s.regions (req.addr.toNat / 4096) = some (i, r) →
      (r.kind = .guard ∨ (r.isMirror = true ∧ s.role = .replica)) →
      exec (.hostRequestTake presented) s = .next (report (if r.kind = .guard then .guardRefused else .replicaRefused)
        (some req.source) req.addr (some i)
        { s with path := { s.path with
            intake := rest,
            table := s.path.table.set t (.used {
              req := req, cls := some (classify s.regions (req.addr.toNat / 4096)), role := s.role, pledge := false,
              unsettled := false, capture := none, rule := none,
              response := some { status := .error, data := [] }, state := .answering }),
            answerQueue := s.path.answerQueue ++ [t] } }))
    ∧ (req.source = 255 →
      exec (.hostRequestTake presented) s = .next (report .badSource (some 255) req.addr none
        { s with path := { s.path with
            intake := rest,
            table := s.path.table.set t (.used {
              req := req, cls := none, role := s.role, pledge := false, unsettled := false, capture := none, rule := none,
              response := some { status := .error, data := if req.kind = .read then List.replicate 64 0 else [] },
              state := .answering }),
            answerQueue := s.path.answerQueue ++ [t] } }))

/-- The arbiter: the oldest request of the only claimant that waits, and with both waiting of the claimant not granted last
(R95). A READ is handed to memory with its entry IN_MEMORY (R96), as is a request of the part's own with source 255 (R87). -/
def Obligations.MemorySideIsGrantedInTurn : Prop :=
  (∀ (s : State) (t : Fin 64) (ts : List (Fin 64)) (e : TrackEntry), s.phase = .running →
    s.path.hostQueue = t :: ts → s.path.table[t] = .used e → e.req.kind = .read →
    (s.path.ownQueue = [] ∨ s.path.lastGranted = .internal) →
    exec .memorySideGrant s = .next { s with path := { s.path with
      table := s.path.table.set t (.used { e with state := .inMemory }), hostQueue := ts, lastGranted := .host,
      memOut := some { kind := .read, source := e.req.source, tag := t, addr := e.req.addr, be := e.req.be,
                       data := e.req.data } } })
  ∧ (∀ (s : State) (t : Fin 64) (ts : List (Fin 64)) (e : TrackEntry), GrantsWrite s t ts e →
    ∃ s' : State, exec .memorySideGrant s = .next s' ∧ s'.path.hostQueue = ts ∧ s'.path.ownQueue = s.path.ownQueue
      ∧ s'.path.lastGranted = .host
      ∧ s'.path.memOut = some { kind := .write, source := e.req.source, tag := t, addr := e.req.addr, be := e.req.be,
                                data := e.req.data })
  ∧ (∀ (s : State) (u : Fin 8) (us : List (Fin 8)) (r : OwnRequest), s.phase = .running →
    s.path.ownQueue = u :: us → s.path.own[u] = .waiting r →
    (s.path.hostQueue = [] ∨ s.path.lastGranted = .host) →
    exec .memorySideGrant s = .next { s with path := { s.path with
      own := s.path.own.set u (.granted r), ownQueue := us, lastGranted := .internal,
      memOut := some { kind := r.kind, source := 255, tag := ⟨u.val, by omega⟩, addr := r.addr, be := r.be,
                       data := r.data } } })
  ∧ (∀ s : State, s.path.hostQueue = [] → s.path.ownQueue = [] → exec .memorySideGrant s = .next s)

/-- The capture decision for a write to an ASYNC mirror region taken in the primary role, by the mirror state at its forward
event: a DATA entry with room, a page mark that turns STREAMING to CATCHUP without room, a page mark in LINKING and
TRACKING, nothing in OFF, a count in DRAINING; the write completes as memory answers (R30). -/
def Obligations.AsyncWriteIsCaptured : Prop :=
  ∀ (s : State) (t : Fin 64) (ts : List (Fin 64)) (e : TrackEntry) (i : Fin 32), GrantsWrite s t ts e →
    e.pledge = false → e.role = .primary → e.cls = some (.mirror i .async) →
    (s.mirror.state = .streaming ∨ s.mirror.state = .catchup →
      (1 ≤ s.journal.freeEntries ∧ 1 ≤ s.journal.freeSlots →
        exec .memorySideGrant s = .next { s with
          path := grantedWrite t ts e (some s.journal.nextId) .asMemory s.path,
          journal := appended (.data e.req.addr e.req.be e.req.data i false) (.awaiting t) s.journal,
          mirror := { s.mirror with copying := s.mirror.copying.map (fun c =>
            if c.page = e.req.addr.toNat / 4096 then { c with recopy := true } else c) } })
      ∧ (¬(1 ≤ s.journal.freeEntries ∧ 1 ≤ s.journal.freeSlots) →
        exec .memorySideGrant s = .next { s with
          path := grantedWrite t ts e none .asMemory s.path, mirror := s.mirror.mark (e.req.addr.toNat / 4096) }
        ∧ (s.mirror.mark (e.req.addr.toNat / 4096)).state = .catchup))
    ∧ (s.mirror.state = .linking ∨ s.mirror.state = .tracking →
      exec .memorySideGrant s = .next { s with
        path := grantedWrite t ts e none .asMemory s.path, mirror := s.mirror.mark (e.req.addr.toNat / 4096) }
      ∧ (s.mirror.mark (e.req.addr.toNat / 4096)).state = s.mirror.state)
    ∧ (s.mirror.state = .off →
      exec .memorySideGrant s = .next { s with path := grantedWrite t ts e none .asMemory s.path })
    ∧ (s.mirror.state = .draining →
      exec .memorySideGrant s = .next (countedUp .uncapturedWrites { s with
        path := grantedWrite t ts e none .asMemory s.path,
        mirror := { s.mirror with drainCount := min 65535 (s.mirror.drainCount + 1) } }))

/-- The capture decision for a write to a synchronous mirror region taken in the primary role, by the mirror state at its
forward event (R31, R96). In STREAMING and CATCHUP a write with a pledge, and one without a pledge that finds room and a held
place, becomes a held DATA entry and joins the held completion list (R60); an unpledged one without either has its page marked,
which makes STREAMING CATCHUP, and its completion decided by policy, as in LINKING and TRACKING. In OFF nothing is recorded,
and in DRAINING the write is counted; there it completes as memory answers. A pledge is given up at this event (R6, R58). A
write of class PASS, or one taken in the replica role, records nothing and completes as memory answers (R73, R74). -/
def Obligations.SynchronousWriteIsHeldOrMarked : Prop :=
  (∀ (s : State) (t : Fin 64) (ts : List (Fin 64)) (e : TrackEntry) (i : Fin 32) (p : Policy) (q : SyncPolicy),
    GrantsWrite s t ts e → e.role = .primary → e.cls = some (.mirror i p) → syncPolicy p = some q →
    let j : Journal := { s.journal with pledges := s.journal.pledges - (if e.pledge then 1 else 0) }
    let place : Prop := e.pledge = true ∨
      (1 ≤ s.journal.freeEntries ∧ 1 ≤ s.journal.freeSlots ∧ s.held.length + s.journal.pledges < 32)
    (s.mirror.state = .streaming ∨ s.mirror.state = .catchup →
      (place → exec .memorySideGrant s = .next { s with
        path := grantedWrite t ts e (some s.journal.nextId) .held s.path,
        journal := appended (.data e.req.addr e.req.be e.req.data i true) (.awaiting t) j,
        held := s.held ++ [{ source := e.req.source, tag := e.req.tag, track := t, entry := s.journal.nextId,
                             policy := q, memOkay := false }],
        mirror := { s.mirror with copying := s.mirror.copying.map (fun c =>
          if c.page = e.req.addr.toNat / 4096 then { c with recopy := true } else c) } })
      ∧ (¬place → exec .memorySideGrant s = .next { s with
          path := grantedWrite t ts e none (if q = .closed then .closed else .asMemory) s.path,
          mirror := s.mirror.mark (e.req.addr.toNat / 4096) }
        ∧ (s.mirror.mark (e.req.addr.toNat / 4096)).state = .catchup))
    ∧ (s.mirror.state = .linking ∨ s.mirror.state = .tracking →
      exec .memorySideGrant s = .next { s with
        path := grantedWrite t ts e none (if q = .closed then .closed else .asMemory) s.path, journal := j,
        mirror := s.mirror.mark (e.req.addr.toNat / 4096) })
    ∧ (s.mirror.state = .off →
      exec .memorySideGrant s = .next { s with path := grantedWrite t ts e none .asMemory s.path, journal := j })
    ∧ (s.mirror.state = .draining →
      exec .memorySideGrant s = .next (countedUp .uncapturedWrites { s with
        path := grantedWrite t ts e none .asMemory s.path, journal := j,
        mirror := { s.mirror with drainCount := min 65535 (s.mirror.drainCount + 1) } })))
  ∧ (∀ (s : State) (t : Fin 64) (ts : List (Fin 64)) (e : TrackEntry), GrantsWrite s t ts e → e.pledge = false →
    e.role = .replica ∨ e.cls = some .pass →
    exec .memorySideGrant s = .next { s with path := grantedWrite t ts e none .asMemory s.path })

/-- A signal write taken in the primary role: one of another form than one aligned group of four bytes is reported as
SIGNAL_MALFORMED in every mirror state; a well-formed one becomes a MARK entry in STREAMING and CATCHUP with a free entry
place, is dropped and counted without one and in LINKING and TRACKING, is counted as uncaptured in DRAINING, and records
nothing in OFF (R10, R32). -/
def Obligations.SignalWriteIsCaptured : Prop :=
  ∀ (s : State) (t : Fin 64) (ts : List (Fin 64)) (e : TrackEntry) (i : Fin 32), GrantsWrite s t ts e →
    e.pledge = false → e.role = .primary → e.cls = some (.signal i) →
    ((∀ k : Fin 16, e.req.be ≠ 0xF#64 <<< (4 * k.val)) →
      exec .memorySideGrant s = .next (report .signalMalformed (some e.req.source) e.req.addr (some i)
        { s with path := grantedWrite t ts e none .asMemory s.path }))
    ∧ ((∃ k : Fin 16, e.req.be = 0xF#64 <<< (4 * k.val)) →
      ((s.mirror.state = .streaming ∨ s.mirror.state = .catchup) ∧ 1 ≤ s.journal.freeEntries →
        exec .memorySideGrant s = .next { s with
          path := grantedWrite t ts e (some s.journal.nextId) .asMemory s.path,
          journal := appended (.mark e.req.addr (markerValue e.req.data) i) (.awaiting t) s.journal })
      ∧ (((s.mirror.state = .streaming ∨ s.mirror.state = .catchup) ∧ ¬ 1 ≤ s.journal.freeEntries)
          ∨ s.mirror.state = .linking ∨ s.mirror.state = .tracking →
        exec .memorySideGrant s = .next (countedUp .markersDropped
          { s with path := grantedWrite t ts e none .asMemory s.path }))
      ∧ (s.mirror.state = .off →
        exec .memorySideGrant s = .next { s with path := grantedWrite t ts e none .asMemory s.path })
      ∧ (s.mirror.state = .draining →
        exec .memorySideGrant s = .next (countedUp .uncapturedWrites { s with
          path := grantedWrite t ts e none .asMemory s.path,
          mirror := { s.mirror with drainCount := min 65535 (s.mirror.drainCount + 1) } })))

/-- Memory's answer to a host request: a READ receives status and data, with zeros under ERROR (R86, R98); a WRITE is decided
by its completion rule, its captured entry confirmed by OKAY and voided by ERROR at the same event (R13, R14, R61, R99). -/
def Obligations.MemoryAnswersAHostRequest : Prop :=
  ∀ (s : State) (source : Byte) (t : Fin 64) (e : TrackEntry) (st : MemStatus) (data : List Byte),
    WaitsInMemory s source t e →
    (e.req.kind = .read → e.capture = none →
      exec (.memoryResponse source t st data) s = .next { s with
        path := decided t e st (if st = .okay then data else List.replicate 64 0) s.path })
    ∧ (e.req.kind = .write → e.rule = some .asMemory ∨ e.rule = some .closed →
      (e.capture = none →
        exec (.memoryResponse source t st data) s = .next { s with
          path := decided t e (if e.rule = some .closed then .error else st) [] s.path })
      ∧ ∀ id : Nat, e.capture = some id →
        exec (.memoryResponse source t st data) s = .next { s with
          path := decided t e (if e.rule = some .closed then .error else st) [] s.path,
          journal := if st = .okay then s.journal.confirm id else s.journal.void id })
    ∧ (e.req.kind = .write → e.rule = some .held → ∀ id : Nat, e.capture = some id →
      exec (.memoryResponse source t .okay data) s = .next { s with
        path := { s.path with table := s.path.table.set t (.used { e with capture := none, state := .kept }) },
        journal := s.journal.confirm id,
        held := s.held.map (fun r => if r.track = t then { r with memOkay := true } else r) }
      ∧ exec (.memoryResponse source t .error data) s = .next { s with
        path := decided t e .error [] s.path, journal := s.journal.void id,
        held := s.held.filter (fun r => r.track ≠ t) })

/-- What confirming and voiding do to a journal whose entries are numbered each once: OKAY makes the AWAITING entry READY in
its place (R13); ERROR removes it alone, the others keep their order, and a send point at it stands at the entry that
followed (R14). -/
def Obligations.ConfirmAndVoidTouchOneEntry : Prop :=
  ∀ (j : Journal) (x : JEntry) (front back : List JEntry) (t : Fin 64), (j.entries.map JEntry.id).Nodup →
    j.entries = front ++ x :: back → x.state = .awaiting t → j.sendPoint ≤ front.length →
    j.confirm x.id = { j with entries := front ++ { x with state := .ready } :: back }
    ∧ j.void x.id = { j with entries := front ++ back }

/-- A line read of a chunk is answered: the answers of the first three are kept (R8, R101), and the fourth ends the chunk read
(R11, R39 to R41). A cancelled read returns its room and nothing more; four OKAY answers append the PAGE entry, the page going
on to its next chunk or, after chunk 15, leaving the map or returning to DIRTY by its recopy flag; an ERROR among the four
removes the mark and reports SWEEP_READ_FAULT with the line first answered ERROR. The cursor moves past a page copied or
skipped, and past page 2^28 - 1 to 0 with the pass count up by one (R40). -/
def Obligations.ChunkReadIsAnswered : Prop :=
  ∀ (s : State) (tag : Fin 64) (u : Fin 8) (r : OwnRequest) (k : Fin 4) (st : MemStatus) (data : List Byte)
    (rv : Reservation), OwnInMemory s tag u r → r.use = .sweep k → s.journal.reservation = some rv →
    let all := rv.answers ++ [{ line := k, status := st, data := data }]
    let freed := { s.path with own := s.path.own.set u .free }
    (rv.answers.length < 3 →
      exec (.memoryResponse 255 tag st data) s = .next { s with
        path := freed, journal := { s.journal with reservation := some { rv with answers := all } } })
    ∧ (rv.answers.length = 3 →
      (rv.cancelled = true →
        exec (.memoryResponse 255 tag st data) s = .next { s with
          path := freed, journal := { s.journal with reservation := none } })
      ∧ (∀ c : Copying, rv.cancelled = false → (∀ a ∈ all, a.status = .okay) → s.mirror.copying = some c →
        (rv.chunk ≠ 15 →
          exec (.memoryResponse 255 tag st data) s = .next { s with
            path := freed,
            journal := appended (.page rv.page rv.chunk rv.region (chunkBytes all)) .ready
              { s.journal with reservation := none },
            mirror := { s.mirror with copying := some { c with next := c.next + 1 } } })
        ∧ (rv.chunk = 15 →
          exec (.memoryResponse 255 tag st data) s = .next
            (if c.recopy then
              { s with
                path := freed,
                journal := appended (.page rv.page rv.chunk rv.region (chunkBytes all)) .ready
                  { s.journal with reservation := none },
                mirror := { s.mirror with
                  copying := none, cursor := cursorAfter c.page, passCount := passesAfter c.page s.mirror.passCount } }
            else countedUp .pagesCopied
              { s with
                path := freed,
                journal := appended (.page rv.page rv.chunk rv.region (chunkBytes all)) .ready
                  { s.journal with reservation := none },
                mirror := { s.mirror with
                  copying := none, cursor := cursorAfter c.page, passCount := passesAfter c.page s.mirror.passCount,
                  marks := s.mirror.marks.filter (fun p => p ≠ c.page),
                  copied := min 4294967295 (s.mirror.copied + 1) } })))
      ∧ (∀ (front back : List LineAnswer) (a : LineAnswer), rv.cancelled = false → all = front ++ a :: back →
        (∀ x ∈ front, x.status = .okay) → a.status = .error →
        exec (.memoryResponse 255 tag st data) s = .next (report .sweepReadFault none
          (BitVec.ofNat 40 (rv.page * 4096 + rv.chunk.val * 256 + a.line.val * 64)) (some rv.region)
          (countedUp .pagesSkipped { s with
            path := freed, journal := { s.journal with reservation := none },
            mirror := { s.mirror with
              copying := none, cursor := cursorAfter rv.page, passCount := passesAfter rv.page s.mirror.passCount,
              marks := s.mirror.marks.filter (fun p => p ≠ rv.page),
              skipped := min 4294967295 (s.mirror.skipped + 1) } }))))

/-- A response for a stale tag clears the mark and is dropped (R97, R103); one that names nothing outstanding is dropped: a
free tag, an internal one among them, a tag whose request is not in memory, and a stale or outstanding tag answered under
another source (R97). -/
def Obligations.StaleAndUnmatchedResponsesAreDropped : Prop :=
  (∀ (s : State) (source : Byte) (t : Fin 64) (k : Bool) (st : MemStatus) (data : List Byte), source ≠ 255 →
    s.path.table[t] = .stale source k →
    exec (.memoryResponse source t st data) s = .next { s with
      path := { s.path with table := s.path.table.set t .free } })
  ∧ (∀ (s : State) (tag : Fin 64) (u : Fin 8) (st : MemStatus) (data : List Byte), tag.val = u.val →
    (s.path.own[u] = .stale →
      exec (.memoryResponse 255 tag st data) s = .next { s with
        path := { s.path with own := s.path.own.set u .free } })
    ∧ (s.path.own[u] = .free → exec (.memoryResponse 255 tag st data) s = .next s))
  ∧ (∀ (s : State) (source : Byte) (t : Fin 64) (st : MemStatus) (data : List Byte), source ≠ 255 →
    s.path.table[t] = .free → exec (.memoryResponse source t st data) s = .next s)
  ∧ (∀ (s : State) (source owner : Byte) (t : Fin 64) (k : Bool) (st : MemStatus) (data : List Byte), source ≠ 255 →
    s.path.table[t] = .stale owner k → source ≠ owner → exec (.memoryResponse source t st data) s = .next s)
  ∧ (∀ (s : State) (source : Byte) (t : Fin 64) (e : TrackEntry) (st : MemStatus) (data : List Byte), source ≠ 255 →
    s.path.table[t] = .used e → e.state ≠ .inMemory ∨ e.req.source ≠ source →
    exec (.memoryResponse source t st data) s = .next s)
  ∧ (∀ (s : State) (tag : Fin 64) (st : MemStatus) (data : List Byte), 8 ≤ tag.val →
    exec (.memoryResponse 255 tag st data) s = .next s)

/-- The oldest response of the answer queue is passed back with the requester's own tag, and its entry becomes free (R86,
R102). -/
def Obligations.OldestResponseIsPassedBack : Prop :=
  ∀ (s : State) (t : Fin 64) (ts : List (Fin 64)) (e : TrackEntry) (a : HostAnswer), s.phase = .running →
    s.path.answerQueue = t :: ts → s.path.table[t] = .used e → e.response = some a →
    exec .hostResponsePassBack s = .next { s with path := { s.path with
      table := s.path.table.set t .free, answerQueue := ts,
      hostOut := some { source := e.req.source, tag := e.req.tag, status := a.status, data := a.data } } }

/-! ### The sweep and the drain's end -/

/-- The sweep picks the first marked page at or after the cursor, and with none there the lowest page, raising the pass count
(R37). -/
def Obligations.SweepPicksTheNextPage : Prop :=
  ∀ (s : State) (p : Nat), s.phase = .running → s.mirror.sweepRuns = true → s.mirror.copying = none →
    s.mirror.marks.Pairwise (· < ·) → p ∈ s.mirror.marks →
    (s.mirror.cursor ≤ p → (∀ q ∈ s.mirror.marks, s.mirror.cursor ≤ q → p ≤ q) →
      exec .sweepPick s = .next { s with mirror := { s.mirror with
        copying := some { page := p, next := 0, recopy := false } } })
    ∧ ((∀ q ∈ s.mirror.marks, q < s.mirror.cursor) → (∀ q ∈ s.mirror.marks, p ≤ q) →
      exec .sweepPick s = .next { s with mirror := { s.mirror with
        copying := some { page := p, next := 0, recopy := false }, passCount := min 65535 (s.mirror.passCount + 1) } })

/-- With room and four free internal tags, a chunk read of the COPYING page is issued: the reservation is made and the four
line reads are handed to the internal source in ascending address order (R7, R8, R38, R94). Requests handed over together
take the lowest free tags in turn and join the source's list in their order (R94). -/
def Obligations.ChunkReadIsIssued : Prop :=
  (∀ (s : State) (c : Copying) (i : Fin 32), s.phase = .running → s.mirror.sweepRuns = true →
    s.mirror.copying = some c → mirrorRegionAt s.regions c.page = some i → s.journal.reservation = none →
    1 ≤ s.journal.freeEntries → 4 + param .catchupReserve s ≤ s.journal.freeSlots → 4 ≤ s.path.freeOwnTags.length →
    exec .chunkReadIssue s = .next { s with
      journal := { s.journal with reservation := some { page := c.page, chunk := c.next, region := i, cancelled := false,
                                                        answers := [] } },
      path := s.path.handOver ((List.finRange 4).map (fun k =>
        { use := .sweep k, kind := .read, addr := BitVec.ofNat 40 (c.page * 4096 + c.next.val * 256 + k.val * 64),
          be := 0, data := [] })) })
  ∧ (∀ (p : Path) (rs : List OwnRequest), rs.length ≤ p.freeOwnTags.length →
    (p.handOver rs).ownQueue = p.ownQueue ++ p.freeOwnTags.take rs.length
    ∧ (∀ (k : Nat) (r : OwnRequest) (u : Fin 8), rs[k]? = some r → p.freeOwnTags[k]? = some u →
        (p.handOver rs).own[u] = .waiting r)
    ∧ (∀ u : Fin 8, p.own[u] ≠ .free → (p.handOver rs).own[u] = p.own[u]))

/-- With the map empty, no reservation and a free entry place, the running sweep ends the catch-up with a DONE entry of its
totals; CATCHUP becomes STREAMING and DRAINING stays (R12, R42). -/
def Obligations.DoneEntryEndsTheCatchUp : Prop :=
  ∀ s : State, s.phase = .running → s.mirror.sweepRuns = true → s.mirror.marks = [] → s.journal.reservation = none →
    1 ≤ s.journal.freeEntries →
    exec .doneEntryAppend s = .next { s with
      journal := appended (.done s.mirror.copied s.mirror.skipped) .ready s.journal,
      mirror := { s.mirror with copied := 0, skipped := 0, catchupActive := false,
                                state := if s.mirror.state = .catchup then .streaming else s.mirror.state } }

/-- A drain ends normally with catch-up-active clear, no reservation and the journal empty: BYE(STOPPED), IDLE with its
timers stopped, OFF, DRAIN_END, and the deferred OK response with the drain count (R51, R130, R191). -/
def Obligations.DrainEndsNormally : Prop :=
  ∀ s : State, s.phase = .running → s.mirror.state = .draining → s.mirror.catchupActive = false →
    s.journal.reservation = none → s.journal.entries = [] → s.held = [] → s.link.state = .up →
    ∃ t : State, exec .drainNormalEnd s = .next t
      ∧ t = { s with path := t.path, journal := t.journal, mirror := t.mirror, link := t.link, port := t.port,
                     alerts := t.alerts }
      ∧ t.path = s.path.dropCaptures ∧ t.journal = { s.journal with sendPoint := 0, lastSeq := none }
      ∧ t.mirror = { Mirror.reset with drainCount := s.mirror.drainCount }
      ∧ t.link = { s.link with
          state := .idle, retry := 0, helloTimer := none, ackTimer := none, holdTimer := none, relinkTimer := none,
          control := s.link.control.filter (fun f => !isHello f)
            ++ [{ session := s.link.session, body := .bye .stopped }] }
      ∧ t.port = { slot := none, responses := s.port.responses ++
          [{ code := 136, status := .ok, body := beBytes 2 s.mirror.drainCount, divisorDue := false }] }
      ∧ t.alerts = { s.alerts with pending := s.alerts.pending ||| 8 }

/-! ### The link unit -/

/-- HOLD at a running primary (R121, R122, R123, R138): its assertion stops the ACK timer and, outside IDLE, starts the hold
timer; its withdrawal stops the hold timer, lets a paused frame go on, and in UP starts the ACK timer while SENT entries
remain. A replica reads no HOLD: only the level at the connection is kept, which is the model's choice
(notes/assumptions/3.md). The part drives HOLD only while it runs in the replica role, at the level of its apply unit: not in
board reset, nor in power-on reset, nor as a primary (R138, R161). -/
def Obligations.HoldMovesTheTimers : Prop :=
  (∀ s : State, s.phase = .running → s.role = .primary → s.holdIn = false →
    exec .holdAsserted s = .next { s with
      holdIn := true,
      link := { s.link with
        ackTimer := none,
        holdTimer := if s.link.state = .idle then s.link.holdTimer else some (param .holdTimeout s) } })
  ∧ (∀ s : State, s.phase = .running → s.role = .primary → s.holdIn = true →
    exec .holdWithdrawn s = .next { s with
      holdIn := false,
      link := { s.link with
        holdTimer := none,
        ackTimer := if s.link.state = .up ∧ 0 < s.journal.sentCount then some (param .ackTimeout s)
                    else s.link.ackTimer },
      linkLine := { s.linkLine with tx := s.linkLine.tx.map (fun t =>
        if t.paused then { t with begun := t.begun + 1, paused := false } else t) } })
  ∧ (∀ s : State, s.role = .replica ∨ s.holdIn = true → exec .holdAsserted s = .next { s with holdIn := true })
  ∧ (∀ s : State, s.role = .replica ∨ s.holdIn = false → exec .holdWithdrawn s = .next { s with holdIn := false })
  ∧ (∀ (s : State) (level : Bool),
    holdDriven s = some level ↔ s.phase = .running ∧ s.role = .replica ∧ s.replica.hold = level)

/-- Timers of the link unit that expire without losing a session: HELLO placed again or the attempt lost (R115), ACK with the
rewind and the retry counter (R19, R127), hold in HELLO_WAIT (R122), relink with a new session offered (R45, R114, R118). A
stopped timer does not expire. -/
def Obligations.LinkTimersExpire : Prop :=
  (∀ (s : State) (h : HelloBody), s.phase = .running → s.link.helloTimer.isSome = true → s.link.state = .helloWait →
    s.link.hello = some h →
    exec .helloTimerExpiry s = .next
      (if s.link.helloSends < param .helloAttempts s then
        { s with link := { s.link with
            helloTimer := none, control := s.link.control ++ [{ session := s.link.session, body := .hello h }] } }
      else attemptOver .noAnswer s))
  ∧ (∀ s : State, s.phase = .running → s.link.ackTimer.isSome = true → s.link.state = .up →
    s.link.retry + 1 ≤ param .retryLimit s →
    exec .ackTimerExpiry s = .next { s with
      journal := { s.journal with
        sendPoint := (s.journal.entries.findIdx? JEntry.isSent).getD s.journal.sendPoint },
      link := { s.link with ackTimer := none, retry := s.link.retry + 1 } })
  ∧ (∀ s : State, s.phase = .running → s.link.holdTimer.isSome = true → s.link.state = .helloWait →
    exec .holdTimerExpiry s = .next (attemptOver .holdStuck s))
  ∧ (∀ s : State, s.phase = .running → s.link.relinkTimer.isSome = true → s.mirror.state = .tracking →
    exec .relinkTimerExpiry s = .next (offered (countedUp .relinkAttempts s)))
  ∧ (∀ s : State, s.link.helloTimer = none → exec .helloTimerExpiry s = .next s)
  ∧ (∀ s : State, s.link.ackTimer = none → exec .ackTimerExpiry s = .next s)
  ∧ (∀ s : State, s.link.holdTimer = none → exec .holdTimerExpiry s = .next s)
  ∧ (∀ s : State, s.link.relinkTimer = none → exec .relinkTimerExpiry s = .next s)

/-- A delivered mirror-link frame that fails a check of R111 is counted under the cause of the first that fails, and changes
nothing else but that its delivery is handled (R142): an oversize header and checks 1 to 4 in either role, then the checks by
session and state for each role (R125 to R128, R150). In IDLE a WELCOME, BYE, ACK or NAK of another session number is counted
under SESSION and one of the same number under STATE, which is the model's reading (notes/assumptions/10.md). What checks 1 to
4 refuse is stated over the bytes: a bad CRC, a type code outside 1 to 9, a body length that the type or a DATA frame's
byte-enable set does not give, and a coded field without a defined value (R108 to R110). With no delivery waiting nothing is
discarded (notes/assumptions/8.md). -/
def Obligations.DiscardedFramesAreOnlyCounted : Prop :=
  (∀ (s : State) (h : List Byte), s.phase = .running →
    exec (.frameDiscarded (.oversize h)) (handed .link (.oversize h) s) =
      .next (countedUp (.discarded .length) s))
  ∧ (∀ (s : State) (bs : List Byte) (c : DiscardCause), s.phase = .running → parseLink bs = .error c →
    exec (.frameDiscarded (.frame bs)) (handed .link (.frame bs) s) = .next (countedUp (.discarded c) s))
  ∧ (∀ front check : List Byte, check.length = 2 → check ≠ crcBytes front → parseLink (front ++ check) = .error .crc)
  ∧ (∀ (t n q1 q0 l1 l0 : Byte) (body : List Byte),
    let bs := checked ([t, n, q1, q0, l1, l0] ++ body)
    (t = 0 ∨ 9 < t.toNat → parseLink bs = .error .type)
    ∧ (1 ≤ t.toNat → t.toNat ≤ 9 → 256 * l1.toNat + l0.toNat = body.length →
      ((t = 1 ∧ body.length ≠ 7) ∨ ((t = 2 ∨ t = 3) ∧ body.length ≠ 1)
          ∨ (t = 4 ∧ (body.length < 14 ∨ 77 < body.length)) ∨ (t = 5 ∧ body.length ≠ 5)
          ∨ (t = 6 ∧ body.length ≠ 261) ∨ (t = 7 ∧ body.length ≠ 8) ∨ ((t = 8 ∨ t = 9) ∧ body.length ≠ 0) →
        parseLink bs = .error .length)
      ∧ ((t = 1 ∧ body.length = 7 ∧ (n = 0 ∨ body.getD 5 0 = 0 ∨ 128 < (body.getD 5 0).toNat))
          ∨ (t = 2 ∧ body.length = 1 ∧ 2 < (body.getD 0 0).toNat)
          ∨ (t = 3 ∧ body.length = 1 ∧ 4 < (body.getD 0 0).toNat)
          ∨ (t = 5 ∧ body.length = 5 ∧ 32 ≤ (body.getD 4 0).toNat)
          ∨ (t = 6 ∧ body.length = 261 ∧ (16 ≤ (body.getD 0 0).toNat ∨ 16 ≤ (body.getD 4 0).toNat)) →
        parseLink bs = .error .body)
      ∧ (∀ (a : LineAddr) (be : ByteSet) (bytes : List Byte), t = 4 → 14 ≤ body.length → body.length ≤ 77 →
        body = beBytes 5 a.toNat ++ beBytes 8 be.toNat ++ bytes →
        (bytes.length ≠ enabledCount be → parseLink bs = .error .length)
        ∧ (bytes.length = enabledCount be → a.toNat % 64 ≠ 0 → parseLink bs = .error .body))))
  ∧ (∀ (s : State) (bs : List Byte) (f : LinkFrame), s.phase = .running → parseLink bs = .ok f →
    s.role = .primary →
    (∀ n b, f.body = .seq n b →
      exec (.frameDiscarded (.frame bs)) (handed .link (.frame bs) s) = .next (countedUp (.discarded .state) s))
    ∧ ((∃ r, f.body = .welcome r) ∨ (∃ r, f.body = .bye r) ∨ (∃ n, f.body = .ack n ∨ f.body = .nak n) →
      (f.session ≠ s.link.session →
        exec (.frameDiscarded (.frame bs)) (handed .link (.frame bs) s) = .next (countedUp (.discarded .session) s))
      ∧ (f.session = s.link.session → s.link.state = .idle →
        exec (.frameDiscarded (.frame bs)) (handed .link (.frame bs) s) = .next (countedUp (.discarded .state) s)))
    ∧ (∀ n, f.body = .ack n ∨ f.body = .nak n → f.session = s.link.session → s.link.state = .helloWait →
      exec (.frameDiscarded (.frame bs)) (handed .link (.frame bs) s) = .next (countedUp (.discarded .state) s))
    ∧ (∀ r, f.body = .welcome r → f.session = s.link.session → s.link.state = .up →
      exec (.frameDiscarded (.frame bs)) (handed .link (.frame bs) s) = .next (countedUp (.discarded .state) s)))
  ∧ (∀ (s : State) (bs : List Byte) (f : LinkFrame), s.phase = .running → parseLink bs = .ok f →
    s.role = .replica →
    (s.replica.state = .off →
      exec (.frameDiscarded (.frame bs)) (handed .link (.frame bs) s) = .next (countedUp (.discarded .state) s))
    ∧ (s.replica.state = .listening → isHello f = false →
      exec (.frameDiscarded (.frame bs)) (handed .link (.frame bs) s) = .next (countedUp (.discarded .state) s))
    ∧ (s.replica.state = .session → isWelcome f = true ∨ isAckFrame f = true →
      exec (.frameDiscarded (.frame bs)) (handed .link (.frame bs) s) = .next (countedUp (.discarded .state) s))
    ∧ (s.replica.state = .session → (∃ n b, f.body = .seq n b) ∨ isBye f = true → f.session ≠ s.replica.session →
      exec (.frameDiscarded (.frame bs)) (handed .link (.frame bs) s) = .next (countedUp (.discarded .session) s)))
  ∧ (∀ (s : State) (d : Delivery), s.linkLine.delivered = [] → exec (.frameDiscarded d) s = .next s)

/-- A HELLO taken by a primary is counted under ROLE and answered with BYE(ROLE_CONFLICT) for the HELLO's session, unless one
already waits (R131). -/
def Obligations.HelloAtAPrimaryIsRefused : Prop :=
  ∀ (s : State) (session : Byte) (h : HelloBody) (bs : List Byte), s.phase = .running → s.role = .primary →
    parseLink bs = .ok { session := session, body := .hello h } →
    exec (.helloRoleConflict session) (handed .link (.frame bs) s) = .next (countedUp (.discarded .role)
      (if ∃ f ∈ s.link.control, f.body = .bye .roleConflict then s
      else { s with link := { s.link with control := s.link.control ++
        [{ session := session, body := .bye .roleConflict }] } }))

/-- A WELCOME or a BYE of the current session in HELLO_WAIT (R44, R116, R117): ACCEPT opens the session by catch-up-active
unless a mark overtook a clean start, which is given up with BYE(STOPPED) and CLEAN_VOID; a refusal or a BYE loses the
attempt. That ACCEPT removes a HELLO that still waits in the control queue is the model's reading (notes/assumptions/11.md). -/
def Obligations.AnswerEndsTheAttempt : Prop :=
  ∀ (s : State) (session : Byte) (bs : List Byte), s.phase = .running → s.role = .primary →
    s.link.state = .helloWait → session = s.link.session →
    (parseLink bs = .ok { session := session, body := .welcome .accept } →
      (¬(s.mirror.catchupActive = true ∧ s.mirror.cleanArmed = true) →
        exec (.welcomeTaken session .accept) (handed .link (.frame bs) s) = .next (alerted .linkUp { s with
          link := { s.link with state := .up, retry := 0, helloTimer := none, ackTimer := none,
                                control := s.link.control.filter (fun f => !isHello f) },
          mirror := { s.mirror with state := if s.mirror.catchupActive then .catchup else .streaming,
                                    cleanArmed := false } }))
      ∧ (s.mirror.catchupActive = true → s.mirror.cleanArmed = true →
        exec (.welcomeTaken session .accept) (handed .link (.frame bs) s) = .next (attemptOver .cleanVoid { s with
          link := { s.link with control := s.link.control ++ [{ session := session, body := .bye .stopped }] } })))
    ∧ (parseLink bs = .ok { session := session, body := .welcome .refuseRegions } →
      exec (.welcomeTaken session .refuseRegions) (handed .link (.frame bs) s) = .next (attemptOver .refusedRegions s))
    ∧ (parseLink bs = .ok { session := session, body := .welcome .refuseRevision } →
      exec (.welcomeTaken session .refuseRevision) (handed .link (.frame bs) s) = .next (attemptOver .refusedRevision s))
    ∧ ∀ reason : ByeReason, parseLink bs = .ok { session := session, body := .bye reason } →
      exec (.byeTaken session reason) (handed .link (.frame bs) s) = .next (attemptOver (.peerBye reason) s)

/-- A session is lost in UP by a BYE of the session (R128), by the hold timer (R122), by the retry counter passing the limit
(R127), and by an ACK or NAK out of range, for which BYE(PROTOCOL) is placed (R124). Each loss in STREAMING and CATCHUP
converts every journal entry, adds a DONE entry's figures back, and keeps the cursor and the pass count where catch-up-active
was set (R23, R29, R46, R129); in DRAINING it ends the drain with LINK_LOST (R52). -/
def Obligations.SessionLossConvertsOrEndsTheDrain : Prop :=
  ∀ s : State, s.phase = .running → s.role = .primary → s.link.state = .up →
    (s.mirror.state = .streaming ∨ s.mirror.state = .catchup ∨ s.mirror.state = .draining) →
    (∀ (reason : ByeReason) (bs : List Byte), parseLink bs = .ok { session := s.link.session, body := .bye reason } →
      ∃ t : State, exec (.byeTaken s.link.session reason) (handed .link (.frame bs) s) = .next t
        ∧ SessionOver (.peerBye reason) s t)
    ∧ (s.link.holdTimer.isSome = true → ∃ t : State,
      exec .holdTimerExpiry s = .next t ∧ SessionOver .holdStuck s t)
    ∧ (s.link.ackTimer.isSome = true → param .retryLimit s < s.link.retry + 1 → ∃ t : State,
      exec .ackTimerExpiry s = .next t ∧ SessionOver .retryExhausted s t)
    ∧ (∀ (n : SeqNum) (bs : List Byte) (c : Instr), s.journal.sentCount < (n - s.journal.ackBase).toNat →
      (c = .ackTaken s.link.session n ∧ parseLink bs = .ok { session := s.link.session, body := .ack n })
        ∨ (c = .nakTaken s.link.session n ∧ parseLink bs = .ok { session := s.link.session, body := .nak n }) →
      ∃ t : State, exec c (handed .link (.frame bs) s) = .next t ∧ SessionOver .protocol { s with
          link := { s.link with control :=
            s.link.control ++ [{ session := s.link.session, body := .bye .protocol }] } } t)
    ∧ (∀ (n : SeqNum) (bs : List Byte), parseLink bs = .ok { session := s.link.session, body := .nak n } →
      n = s.journal.ackBase → param .retryLimit s < s.link.retry + 1 → ∃ t : State,
      exec (.nakTaken s.link.session n) (handed .link (.frame bs) s) = .next t ∧ SessionOver .retryExhausted s t)

/-- Held writes released by policy (R63, R64, R100): a record whose memory status is OKAY has its response decided, OKAY
under SYNC_OPEN and ERROR under SYNC_CLOSED, in list order; one that waits for memory has its completion rule set; other
tracking entries only lose their capture links. -/
def Obligations.HeldWritesAreReleasedByPolicy : Prop :=
  ∀ s : State, PathOk s →
    (releasedPath s).answerQueue = s.path.answerQueue
      ++ (s.held.filter (fun r => r.memOkay)).map HeldRecord.track
    ∧ (∀ (r : HeldRecord) (e : TrackEntry), r ∈ s.held → s.path.table[r.track] = .used e →
        (releasedPath s).table[r.track] = .used (
          if r.memOkay then
            { e with capture := none, state := .answering,
                     response := some { status := if r.policy = .closed then .error else .okay, data := [] } }
          else { e with capture := none, rule := some (if r.policy = .closed then .closed else .asMemory) }))
    ∧ (∀ (t : Fin 64) (e : TrackEntry), s.path.table[t] = .used e → (∀ r ∈ s.held, r.track ≠ t) →
        (releasedPath s).table[t] = .used { e with capture := none })
    ∧ releasedPath s = { s.path with table := (releasedPath s).table, answerQueue := (releasedPath s).answerQueue }

/-- An ACK or NAK in range (R124): an ACK removes the d oldest entries and clears the retry counter (R21, R125); a NAK removes
likewise, rewinds to the named sequence, and makes the counter 1, or with nothing removed raises it (R20, R126). The rewind
moves the send point to the entry that carries the sequence, and leaves it where none carries it (R20). -/
def Obligations.AcknowledgementRemovesAndRewinds : Prop :=
  (∀ (s : State) (session : Byte) (n : SeqNum) (d : Nat) (bs : List Byte), TakesAck session s →
    (n - s.journal.ackBase).toNat = d → d ≤ s.journal.sentCount →
    (parseLink bs = .ok { session := session, body := .ack n } →
      (d = 0 → exec (.ackTaken session n) (handed .link (.frame bs) s) = .next s)
      ∧ (1 ≤ d → exec (.ackTaken session n) (handed .link (.frame bs) s) = .next { removedOldest d s with
          link := { (removedOldest d s).link with retry := 0 } }))
    ∧ (parseLink bs = .ok { session := session, body := .nak n } →
      (d = 0 → s.link.retry + 1 ≤ param .retryLimit s →
        exec (.nakTaken session n) (handed .link (.frame bs) s) = .next { s with
          journal := s.journal.rewindTo n, link := { s.link with retry := s.link.retry + 1 } })
      ∧ (1 ≤ d → 1 ≤ param .retryLimit s →
        exec (.nakTaken session n) (handed .link (.frame bs) s) = .next { removedOldest d s with
          journal := (removedOldest d s).journal.rewindTo n,
          link := { (removedOldest d s).link with retry := 1 } })))
  ∧ (∀ (j : Journal) (n : SeqNum),
    (∀ (front back : List JEntry) (e : JEntry), j.entries = front ++ e :: back → e.state = .sent n →
      (∀ x ∈ front, x.state ≠ .sent n) → j.rewindTo n = { j with sendPoint := front.length })
    ∧ ((∀ x ∈ j.entries, x.state ≠ .sent n) → j.rewindTo n = j))

/-- The mirror-link transmitter takes its next frame (R17, R18, R119, R120): the control queue's oldest first; with the queue
empty and the session UP a READY entry at the send point with the next sequence while the window has room, or a SENT entry
again, counted as resent; at an AWAITING entry, at a full window and at the new end nothing begins. The frame carries the
entry's own fields (R3). That nothing begins at a primary while HOLD is asserted (R121) follows notes/assumptions/12.md, and
that the control queue is served in the replica role too is the model's choice (notes/assumptions/13.md). -/
def Obligations.TransmitterTakesTheNextFrame : Prop :=
  (∀ s : State, s.phase = .running → s.linkLine.tx = none →
    (s.role = .primary ∧ s.holdIn = true → exec .linkFrameTransmitStart s = .next s)
    ∧ (¬(s.role = .primary ∧ s.holdIn = true) →
      (∀ f rest, s.link.control = f :: rest →
        exec .linkFrameTransmitStart s = .next { s with
          link := { s.link with control := rest },
          linkLine := { s.linkLine with tx := some { content := .link f, begun := 1, paused := false } } })
      ∧ (s.link.control = [] → s.link.state ≠ .up → exec .linkFrameTransmitStart s = .next s)
      ∧ (s.link.control = [] → s.link.state = .up → s.journal.entries.length ≤ s.journal.sendPoint →
        exec .linkFrameTransmitStart s = .next s)
      ∧ (s.link.control = [] → s.link.state = .up → ∀ e : JEntry, s.journal.entries[s.journal.sendPoint]? = some e →
        (e.state = .ready → s.journal.sentCount < param .window s →
          exec .linkFrameTransmitStart s = .next { s with
            journal := { s.journal with
              entries := s.journal.entries.set s.journal.sendPoint { e with state := .sent s.journal.nextSeq },
              sendPoint := s.journal.sendPoint + 1, lastSeq := some s.journal.nextSeq },
            linkLine := { s.linkLine with tx := some {
              content := .link (entryFrame s.link.session s.journal.nextSeq e.body), begun := 1, paused := false } } })
        ∧ (∀ q : SeqNum, e.state = .sent q →
          exec .linkFrameTransmitStart s = .next (countedUp .framesResent { s with
            journal := { s.journal with sendPoint := s.journal.sendPoint + 1 },
            linkLine := { s.linkLine with tx := some {
              content := .link (entryFrame s.link.session q e.body), begun := 1, paused := false } } }))
        ∧ (e.state = .ready → param .window s ≤ s.journal.sentCount → exec .linkFrameTransmitStart s = .next s)
        ∧ (∀ t : Fin 64, e.state = .awaiting t → exec .linkFrameTransmitStart s = .next s))))
  ∧ (∀ (session : Byte) (n : SeqNum),
    (∀ (a : LineAddr) (be : ByteSet) (bytes : List Byte) (i : Fin 32) (held : Bool),
      entryFrame session n (.data a be bytes i held) = { session := session, body := .seq n (.data a be bytes) })
    ∧ (∀ (a : LineAddr) (v : BitVec 32) (i : Fin 32),
      entryFrame session n (.mark a v i) = { session := session, body := .seq n (.mark v i) })
    ∧ (∀ (p : Nat) (k : Fin 16) (i : Fin 32) (bytes : List Byte),
      entryFrame session n (.page p k i bytes) =
        { session := session, body := .seq n (.page (BitVec.ofNat 28 p) k bytes) })
    ∧ (∀ copied skipped : Nat,
      entryFrame session n (.done copied skipped) =
        { session := session, body := .seq n (.done (BitVec.ofNat 32 copied) (BitVec.ofNat 32 skipped)) }))

/-! ### The replica apply unit -/

/-- A HELLO taken by a replica (R111, R150 to R154): refused by revision or by digest, or
accepted with its session's fields set and WELCOME pending; in SESSION one of the session again is answered unless a WELCOME
is pending, and one of another session is judged after the session is left. A BYE of the session ends it without an answer (R149,
R169); a BYE of another session is counted under SESSION, and one taken outside SESSION under STATE (R150). That a waiting
WELCOME of any session keeps the new one out of the reply list is the model's reading of R165 (notes/assumptions/16.md). -/
def Obligations.HelloAndByeAtAReplica : Prop :=
  (∀ (s : State) (session : Byte) (h : HelloBody) (bs : List Byte), s.phase = .running → s.role = .replica →
    parseLink bs = .ok { session := session, body := .hello h } →
    (s.replica.state = .listening →
      exec (.helloTaken session h) (handed .link (.frame bs) s) = .next { s with
        replica := if h.revision ≠ 1 then
          { s.replica with replies := if s.replica.replies.any isWelcome then s.replica.replies
              else s.replica.replies ++ [{ session := session, body := .welcome .refuseRevision }] }
        else if h.digest ≠ regionDigest s.regions then
          { s.replica with replies := if s.replica.replies.any isWelcome then s.replica.replies
              else s.replica.replies ++ [{ session := session, body := .welcome .refuseRegions }] }
        else
          { s.replica with
            state := .session, session := session, expected := 0, ackPoint := 0, retired := 0, nakOutstanding := false,
            nakDue := false, catchupFollows := h.flags.getLsbD 0, cleanStart := h.flags.getLsbD 1,
            window := h.window.toNat, welcomePending := true } })
    ∧ (s.replica.state = .session → session = s.replica.session →
      exec (.helloTaken session h) (handed .link (.frame bs) s) = .next (if s.replica.welcomePending then s
        else { s with replica := { s.replica with replies := if s.replica.replies.any isWelcome then s.replica.replies
            else s.replica.replies ++ [{ session := session, body := .welcome .accept }] } }))
    ∧ (s.replica.state = .session → session ≠ s.replica.session →
      exec (.helloTaken session h) (handed .link (.frame bs) s) =
        exec (.helloTaken session h) (handed .link (.frame bs) (sessionLeft none .listening s)))
    ∧ (s.replica.state = .off →
      exec (.helloTaken session h) (handed .link (.frame bs) s) = .next (countedUp (.discarded .state) s)))
  ∧ (∀ (s : State) (session : Byte) (reason : ByeReason) (bs : List Byte), s.phase = .running → s.role = .replica →
    parseLink bs = .ok { session := session, body := .bye reason } →
    (s.replica.state = .session → session = s.replica.session →
      exec (.replicaByeTaken session reason) (handed .link (.frame bs) s) = .next (sessionLeft none .listening s))
    ∧ (s.replica.state = .session → session ≠ s.replica.session →
      exec (.replicaByeTaken session reason) (handed .link (.frame bs) s) =
        .next (countedUp (.discarded .session) s))
    ∧ (s.replica.state ≠ .session →
      exec (.replicaByeTaken session reason) (handed .link (.frame bs) s) =
        .next (countedUp (.discarded .state) s)))

/-- A sequenced frame of the session, placed by its distance from the expected sequence (R155 to R159, R161, R164). In order it
joins the apply queue, is an overrun when the queue is full, or ends the session with BYE(PROTOCOL) when
its page lies in no MIRROR region; ahead it is counted and a NAK set due; behind it is counted and answered with an ACK. That
the count of retired frames returns to 0 when an ACK or NAK is handed to the reply list follows notes/assumptions/15.md. -/
def Obligations.SequencedFrameIsPlaced : Prop :=
  ∀ (s : State) (session : Byte) (n : SeqNum) (b : SeqBody) (region : Option (Fin 32)) (bs : List Byte),
    TakesInSession session s → parseLink bs = .ok { session := session, body := .seq n b } →
    (n = s.replica.expected →
      (framePage b = none ∧ region = none)
        ∨ (∃ p, framePage b = some p ∧ mirrorRegionAt s.regions p = region ∧ region.isSome = true) →
      (s.replica.queue.length < 16 →
        exec (.sequencedFrameTaken session n b) (handed .link (.frame bs) s) = .next { s with replica := { s.replica with
          queue := s.replica.queue ++ [{ seq := n, body := b, region := region, started := false }],
          expected := n + 1, nakOutstanding := false, nakDue := false,
          hold := if 12 ≤ s.replica.queue.length + 1 then true
                  else if s.replica.queue.length + 1 ≤ 8 then false else s.replica.hold } })
      ∧ (16 ≤ s.replica.queue.length →
        exec (.sequencedFrameTaken session n b) (handed .link (.frame bs) s) = .next (countedUp (.discarded .overrun) { s with
          replica := { s.replica with
            nakOutstanding := true, nakDue := if s.replica.nakOutstanding then s.replica.nakDue else true } })))
    ∧ (∀ p : Nat, n = s.replica.expected → framePage b = some p → mirrorRegionAt s.regions p = none →
      exec (.sequencedFrameTaken session n b) (handed .link (.frame bs) s) =
        .next (sessionLeft (some .protocol) .listening (countedUp (.discarded .region) s)))
    ∧ (1 ≤ (n - s.replica.expected).toNat ∧ (n - s.replica.expected).toNat ≤ 32767 →
      (s.replica.nakOutstanding = false → s.replica.queue = [] →
        exec (.sequencedFrameTaken session n b) (handed .link (.frame bs) s) = .next (countedUp (.discarded .ahead) { s with
          replica := nakHanded { s.replica with nakOutstanding := true } }))
      ∧ (s.replica.nakOutstanding = false → s.replica.queue ≠ [] →
        exec (.sequencedFrameTaken session n b) (handed .link (.frame bs) s) = .next (countedUp (.discarded .ahead) { s with
          replica := { s.replica with nakOutstanding := true, nakDue := true } }))
      ∧ (s.replica.nakOutstanding = true → s.replica.nakDue = false ∨ s.replica.queue ≠ [] →
        exec (.sequencedFrameTaken session n b) (handed .link (.frame bs) s) = .next (countedUp (.discarded .ahead) s)))
    ∧ (32767 < (n - s.replica.expected).toNat →
      exec (.sequencedFrameTaken session n b) (handed .link (.frame bs) s) =
        .next (countedUp (.discarded .duplicate) { s with replica := ackHanded s.replica }))

/-- The oldest frame of the apply queue is started (R162, R163): a MARK sets the marker register and a DONE the consistency
state, each retiring at once with its alert (R166, R167); a DATA or PAGE frame hands over its one or four writes together once
the internal tags are free, and a PAGE moves CONSISTENT to CATCHING (R94, R167). A retirement is followed by the
acknowledgement that R164 gives and may withdraw HOLD (R161); that the count of retired frames returns to 0 when an ACK or NAK
is handed to the reply list follows notes/assumptions/15.md. -/
def Obligations.OldestFrameIsStarted : Prop :=
  ∀ (s : State) (f : QueuedFrame) (rest : List QueuedFrame), Startable f rest s →
    (∀ (v : BitVec 32) (i : Fin 32), f.body = .mark v i →
      exec .applyFrameStart s = .next (alerted .markApplied { s with
        replica := acknowledged (coalesceLimit s)
          { retired f rest s.replica with marker := { valid := true, value := v, region := i } } }))
    ∧ (∀ copied skipped : BitVec 32, f.body = .done copied skipped →
      exec .applyFrameStart s = .next (alerted .catchupDone { s with
        replica := acknowledged (coalesceLimit s)
          { retired f rest s.replica with consistency := if skipped = 0 then .consistent else .broken } }))
    ∧ (∀ (a : LineAddr) (be : ByteSet) (bytes : List Byte), f.body = .data a be bytes →
      1 ≤ s.path.freeOwnTags.length →
      exec .applyFrameStart s = .next { s with
        replica := { s.replica with
          queue := { f with started := true } :: rest,
          applying := some { remaining := 1, firstError := none, region := f.region } },
        path := s.path.handOver [{ use := .apply 0, kind := .write, addr := a, be := be, data := bytes }] })
    ∧ (∀ (p : BitVec 28) (k : Fin 16) (bytes : List Byte), f.body = .page p k bytes →
      4 ≤ s.path.freeOwnTags.length →
      exec .applyFrameStart s = .next { s with
        replica := { s.replica with
          queue := { f with started := true } :: rest,
          applying := some { remaining := 4, firstError := none, region := f.region },
          consistency := if s.replica.consistency = .consistent then .catching else s.replica.consistency },
        path := s.path.handOver ((List.finRange 4).map (fun j =>
          { use := .apply j, kind := .write,
            addr := BitVec.ofNat 40 (p.toNat * 4096 + k.val * 256 + j.val * 64), be := BitVec.allOnes 64,
            data := (bytes.drop (64 * j.val)).take 64 })) })

/-- An apply write is answered (R101, R147, R162, R163, R168): one that is not the last is counted; the last with every answer
OKAY retires the started frame; the last with an ERROR among them is an apply fault: APPLY_FAULT reported and set pending,
consistency BROKEN, and a session left with BYE(APPLY_FAULT). The retirement is followed by the acknowledgement that R164 gives
and may withdraw HOLD (R161); that the count of retired frames returns to 0 at the hand-over follows
notes/assumptions/15.md. -/
def Obligations.ApplyWritesEndInRetirementOrFault : Prop :=
  ∀ (s : State) (tag : Fin 64) (u : Fin 8) (r : OwnRequest) (k : Fin 4) (st : MemStatus) (data : List Byte)
    (w : ApplyWork), OwnInMemory s tag u r → r.use = .apply k → s.replica.applying = some w →
    (2 ≤ w.remaining →
      exec (.memoryResponse 255 tag st data) s = .next { s with
        path := { s.path with own := s.path.own.set u .free },
        replica := { s.replica with applying := some { w with
          remaining := w.remaining - 1,
          firstError := if w.firstError = none ∧ st = .error then some r.addr else w.firstError } } })
    ∧ (w.remaining = 1 → w.firstError = none → st = .okay →
      (∀ f rest, s.replica.queue = f :: rest → f.started = true → framePage f.body ≠ none →
        exec (.memoryResponse 255 tag st data) s = .next { s with
          path := { s.path with own := s.path.own.set u .free },
          replica := acknowledged (coalesceLimit s) (retired f rest { s.replica with applying := none }) })
      ∧ ((∀ f ∈ s.replica.queue.head?, f.started = false) →
        exec (.memoryResponse 255 tag st data) s = .next { s with
          path := { s.path with own := s.path.own.set u .free }, replica := { s.replica with applying := none } }))
    ∧ (∀ a : LineAddr, w.remaining = 1 →
      w.firstError = some a ∨ (w.firstError = none ∧ st = .error ∧ a = r.addr) →
      let t := alerted .applyFault (report .applyFault none a w.region { s with
        path := { s.path with own := s.path.own.set u .free },
        replica := { s.replica with applying := none, consistency := .broken } })
      exec (.memoryResponse 255 tag st data) s = .next
        (if s.replica.state = .session then sessionLeft (some .applyFault) .listening t else t))

/-- The WELCOME ACCEPT of an accepted session is sent once no apply write is in flight, when exactly one accepted flag acts on
the consistency state (R152, R167); the reply list's oldest frame begins transmission when the transmitter is free (R165). A
waiting WELCOME of any session keeps the new one out (notes/assumptions/16.md), and the reply list is served in the primary
role too (notes/assumptions/13.md), which are the model's readings. -/
def Obligations.RepliesAreSent : Prop :=
  (∀ s : State, s.phase = .running → s.replica.state = .session → s.replica.welcomePending = true →
    s.replica.applying = none →
    exec .welcomeAcceptSend s = .next { s with replica := { s.replica with
      welcomePending := false,
      replies := if s.replica.replies.any isWelcome then s.replica.replies
        else s.replica.replies ++ [{ session := s.replica.session, body := .welcome .accept }],
      consistency :=
        if s.replica.catchupFollows = true ∧ s.replica.cleanStart = false then .catching
        else if s.replica.catchupFollows = false ∧ s.replica.cleanStart = true then .consistent
        else s.replica.consistency } })
  ∧ (∀ (s : State) (f : LinkFrame) (rest : List LinkFrame), s.phase = .running → s.linkLine.tx = none →
    ¬(s.role = .primary ∧ s.holdIn = true) → s.replica.replies = f :: rest →
    exec .replyFrameTransmitStart s = .next { s with
      replica := { s.replica with replies := rest },
      linkLine := { s.linkLine with tx := some { content := .link f, begun := 1, paused := false } } })

/-! ### The serial lines -/

/-- A received character by the receiver's frame state and its judgement (R140): a receiver that waits for a high line takes
none (R139); otherwise the character is counted, and errors, abandoned and delivered frames under their own causes (R143); a
framing or parity error abandons the frame under collection; a good marked one starts a frame; a good unmarked one in HUNT is
passed over, and in IN_FRAME joins the frame, which is delivered when complete or oversize (R141), the receiver being free for
its next frame at once (R142). That the delivery stands behind those that still wait for the line's owner, where R142 has the
owner handle it at the delivery, is the model's choice (DESIGN CHOICE, notes/assumptions/6.md). -/
def Obligations.CharactersMakeFrames : Prop :=
  ∀ (s : State) (l : LineId) (c : Character), s.phase = .running →
    ((lineOf l s).waitHigh = true → exec (.characterReceived l c) s = .next s)
    ∧ ((lineOf l s).waitHigh = false →
      let counted := countedUp (.line l .characters) s
      (c.stop = false → exec (.characterReceived l c) s = .next
        (withLine l { lineOf l s with collected := none, waitHigh := true }
          (if (lineOf l s).collected.isSome then countedUp (.line l .abandoned) (countedUp (.line l .framing) counted)
          else countedUp (.line l .framing) counted)))
      ∧ (c.stop = true → Character.parityOk c = false → exec (.characterReceived l c) s = .next
        (withLine l { lineOf l s with collected := none }
          (if (lineOf l s).collected.isSome then countedUp (.line l .abandoned) (countedUp (.line l .parity) counted)
          else countedUp (.line l .parity) counted)))
      ∧ (goodChar c → c.mark = true → exec (.characterReceived l c) s = .next
        (withLine l { lineOf l s with collected := some [c.data] }
          (if (lineOf l s).collected.isSome then countedUp (.line l .abandoned) counted else counted)))
      ∧ (goodChar c → c.mark = false → (lineOf l s).collected = none →
        exec (.characterReceived l c) s = .next counted)
      ∧ (∀ bs : List Byte, goodChar c → c.mark = false → (lineOf l s).collected = some bs →
        (frameOpen l (bs ++ [c.data]) → exec (.characterReceived l c) s = .next
          (withLine l { lineOf l s with collected := some (bs ++ [c.data]) } counted))
        ∧ (frameComplete l (bs ++ [c.data]) → exec (.characterReceived l c) s = .next
          (withLine l { lineOf l s with collected := none, delivered := (lineOf l s).delivered ++ [.frame (bs ++ [c.data])] }
            (countedUp (.line l .delivered) counted)))
        ∧ (headerOversize l (bs ++ [c.data]) → exec (.characterReceived l c) s = .next
          (withLine l { lineOf l s with collected := none, delivered := (lineOf l s).delivered ++ [.oversize (bs ++ [c.data])] }
            (countedUp (.line l .delivered) counted)))))

/-- The line sampled high ends a receiver's wait (R139). A frame is sent as characters, byte 0 marked and every later byte
unmarked, each with an even number of highs and its stop bit high, in the bit order of R134 (R107, R134, R137, R186). At a
character's end with more of the frame to send, the mirror-link transmitter pauses under HOLD at a primary and otherwise begins
the next character (R138). The end of a frame's transmission comes when all its characters have begun and the transmitter is not
paused, and frees the transmitter (R137); before that, and while it is paused, there is none (R121, R138). The end of a HELLO of
the current session in HELLO_WAIT is counted and starts the HELLO timer (R114); in UP it is counted and starts none, and in IDLE
or for another session it does nothing (notes/assumptions/14.md); the end of a sequenced frame starts a stopped ACK timer in UP
while SENT entries remain and HOLD is withdrawn (R123); of a response it makes a service divisor due that its command wrote
(R136). That no event lies between the characters of a response is the model's choice (notes/assumptions/27.md). -/
def Obligations.TransmissionPausesAndEnds : Prop :=
  (∀ (s : State) (l : LineId), s.phase = .running →
    exec (.lineSampledHigh l) s = .next (withLine l { lineOf l s with waitHigh := false } s))
  ∧ (∀ (t : Tx) (k : Nat) (b : Byte), (txBytes t.content)[k]? = some b → ∃ c : Character,
    t.characters[k]? = some c ∧ c.data = b ∧ c.mark = decide (k = 0) ∧ c.stop = true
      ∧ (c.parity = true ↔ ((List.range 8).countP (fun i => b.getLsbD i) + (if k = 0 then 1 else 0)) % 2 = 1)
      ∧ Character.bits c = [false, b.getLsbD 0, b.getLsbD 1, b.getLsbD 2, b.getLsbD 3, b.getLsbD 4, b.getLsbD 5,
          b.getLsbD 6, b.getLsbD 7, decide (k = 0), c.parity, true]
      ∧ goodChar c ∧ (k < t.begun ↔ t.sent[k]? = some c))
  ∧ (∀ t : Tx, t.characters.length = (txBytes t.content).length)
  ∧ (∀ (s : State) (t : Tx), s.phase = .running → s.linkLine.tx = some t → t.paused = false →
    t.begun < (txBytes t.content).length →
    exec .characterBoundary s = .next { s with linkLine := { s.linkLine with
      tx := some (if s.role = .primary ∧ s.holdIn = true then { t with paused := true }
        else { t with begun := t.begun + 1 }) } })
  ∧ (∀ (s : State) (t : Tx) (l : LineId), s.phase = .running → (lineOf l s).tx = some t →
    t.paused = true ∨ t.begun < (txBytes t.content).length → exec (.transmissionEnd l) s = .next s)
  ∧ (∀ (s : State) (t : Tx) (f : LinkFrame), s.phase = .running → s.linkLine.tx = some t → t.paused = false →
    t.content = .link f → (encodeLink f).length ≤ t.begun →
    (isHello f = false → (∀ n b, f.body ≠ .seq n b) →
      exec (.transmissionEnd .link) s = .next { s with linkLine := { s.linkLine with tx := none } })
    ∧ (∀ h : HelloBody, f.body = .hello h →
      (s.link.state ≠ .idle → f.session = s.link.session →
        exec (.transmissionEnd .link) s = .next { s with
          linkLine := { s.linkLine with tx := none },
          link := { s.link with
            helloSends := s.link.helloSends + 1,
            helloTimer := if s.link.state = .helloWait then some (param .helloTimeout s) else s.link.helloTimer } })
      ∧ (s.link.state = .idle ∨ f.session ≠ s.link.session →
        exec (.transmissionEnd .link) s = .next { s with linkLine := { s.linkLine with tx := none } }))
    ∧ (∀ n b, f.body = .seq n b →
      exec (.transmissionEnd .link) s = .next { s with
        linkLine := { s.linkLine with tx := none },
        link := { s.link with
          ackTimer := if s.link.state = .up ∧ 0 < s.journal.sentCount ∧ s.holdIn = false ∧ s.link.ackTimer = none
            then some (param .ackTimeout s) else s.link.ackTimer } }))
  ∧ (∀ (s : State) (t : Tx) (r : SvcResponse), s.phase = .running → s.svcLine.tx = some t → t.paused = false →
    t.content = .response r → (encodeResponse r).length ≤ t.begun →
    exec (.transmissionEnd .service) s = .next { s with
      svcLine := { s.svcLine with tx := none, due := s.svcLine.due || r.divisorDue } })

/-- The oldest response begins transmission when the service transmitter is free (R189); a half of a line takes a pending
divisor that is due while it is idle, a transmitter when it holds no frame and a receiver in HUNT with no character under
reception, and no half takes one that is not due or while it is busy (R136). The step says whether a character is under
reception (notes/assumptions/25.md), and a response's characters all count as begun from its start
(notes/assumptions/27.md). -/
def Obligations.ResponsesAndDivisorsTakeTheirTurn : Prop :=
  (∀ (s : State) (r : SvcResponse) (rest : List SvcResponse), s.phase = .running → s.svcLine.tx = none →
    s.port.responses = r :: rest →
    exec .responseTransmitStart s = .next { s with
      port := { s.port with responses := rest },
      svcLine := { s.svcLine with tx := some {
        content := .response r, begun := (encodeResponse r).length, paused := false } } })
  ∧ (∀ (s : State) (l : LineId) (v : Nat), s.phase = .running → (lineOf l s).due = true →
    ((lineOf l s).tx = none → (lineOf l s).txPending = some v →
      exec (.divisorTakeEffect l .transmitter) s =
        .next (withLine l { lineOf l s with txDivisor := v, txPending := none } s))
    ∧ ((lineOf l s).collected = none → (lineOf l s).rxPending = some v →
      exec (.divisorTakeEffect l (.receiver false)) s =
        .next (withLine l { lineOf l s with rxDivisor := v, rxPending := none } s)))
  ∧ (∀ (s : State) (l : LineId) (h : Half),
    (lineOf l s).due = false ∨ (h = .transmitter ∧ (lineOf l s).tx ≠ none)
      ∨ h = .receiver true ∨ ((∃ b, h = .receiver b) ∧ (lineOf l s).collected ≠ none) →
    exec (.divisorTakeEffect l h) s = .next s)

/-! ### The service port -/

/-- A delivered service frame that is no command to carry out is answered whatever the slot holds if a response fits, and
dropped and counted otherwise (R187, R189): FRAME_ERROR with code 255 for an oversize header, a bad CRC or a wrong length;
UNKNOWN_COMMAND with the code plus 128, or 254; RANGE for an undefined option of START or STOP (R195), here with the slot
free, answered in this step by the model's choice (notes/assumptions/21.md). Every command is read back from the frame that
carries its code and the values of its body, high byte first, by the layouts of R192 to R201, and such a frame is not rejected
(R186, R187). A command whose frame is not the oldest delivery is not taken (R142, notes/assumptions/6.md). -/
def Obligations.RejectedServiceFramesAreAnswered : Prop :=
  (∀ s : State, s.phase = .running → ¬ResponseFits s → ∀ d : Delivery,
    exec .serviceFrameDropped (handed .service d s) = .next (countedUp .serviceDropped s)
    ∧ exec (.serviceFrameRejected d) (handed .service d s) = .next (countedUp .serviceDropped s))
  ∧ (∀ s : State, ResponseFits s → exec .serviceFrameDropped s = .next s
    ∧ (∀ h : List Byte,
      exec (.serviceFrameRejected (.oversize h)) (handed .service (.oversize h) s) =
        .next (answered 255 .frameError [] s))
    ∧ (∀ front check : List Byte, check.length = 2 → check ≠ crcBytes front →
      exec (.serviceFrameRejected (.frame (front ++ check))) (handed .service (.frame (front ++ check)) s) =
        .next (answered 255 .frameError [] s))
    ∧ (∀ (c l : Byte) (body : List Byte), c = 0 ∨ 21 < c.toNat →
      exec (.serviceFrameRejected (.frame (checked (c :: l :: body))))
          (handed .service (.frame (checked (c :: l :: body))) s) =
        .next (answered (if c.toNat < 128 then c + 128 else 254) .unknownCommand [] s))
    ∧ (∀ (c l : Byte) (body : List Byte), 1 ≤ c.toNat → c.toNat ≤ 21 → commandLengthOk c.toNat body = false →
      exec (.serviceFrameRejected (.frame (checked (c :: l :: body))))
          (handed .service (.frame (checked (c :: l :: body))) s) = .next (answered 255 .frameError [] s))
    ∧ (∀ l o : Byte, s.port.slot = none → 2 ≤ o.toNat →
      exec (.serviceFrameRejected (.frame (checked [7, l, o]))) (handed .service (.frame (checked [7, l, o])) s) =
        .next (answered 135 .range [] s)
      ∧ exec (.serviceFrameRejected (.frame (checked [8, l, o]))) (handed .service (.frame (checked [8, l, o])) s) =
        .next (answered 136 .range [] s)))
  ∧ (∀ (c : Instr) (bs : List Byte), c.wf = true → commandFrame c = some bs → Carries (.frame bs) c)
  ∧ (∀ (s : State) (c : Instr) (d : Delivery), Carries d c → ResponseFits s →
      exec (.serviceFrameRejected d) (handed .service d s) = .next (handed .service d s))
  ∧ (∀ (s : State) (c : Instr), (slottedCode c).isSome = true ∨ c = .abort →
      (∀ d ∈ s.svcLine.delivered.head?, ¬Carries d c) → exec c s = .next s)

/-- A command that finds the slot occupied is answered BUSY with the holder's command code, 8 for STOP DRAIN and 21 for
SOFT_RESET, and one that finds no room for a response is dropped and counted; neither does anything else (R189, R190). ABORT
passes the slot: it is answered BUSY by a soft reset alone (R191). -/
def Obligations.OccupiedSlotAnswersBusy : Prop :=
  ∀ (s : State) (c : Instr) (code : Byte) (d : Delivery), Carries d c →
    (slottedCode c = some code → s.phase = .running → ¬ResponseFits s →
      exec c (handed .service d s) = .next (countedUp .serviceDropped s))
    ∧ (slottedCode c = some code → ResponseFits s → ∀ h : SlotHolder, s.port.slot = some h →
      exec c (handed .service d s) = .next (answered (code + 128) .busy [if h = .stopDrain then 8 else 21] s))
    ∧ (c = .abort → s.phase = .running → ¬ResponseFits s →
      exec c (handed .service d s) = .next (countedUp .serviceDropped s))
    ∧ (c = .abort → ResponseFits s → s.port.slot = some .softReset →
      exec c (handed .service d s) = .next (answered 137 .busy [21] s))

/-- The reading commands are carried out in every state and change the response list alone (R81, R178, R183, R192, R193, R197,
R198): STATUS of groups 0 to 4 with the group's fields, READ_PARAM with the value last written, READ_REGION with the entry's
fields, the totals and the unsettled writes, READ_ALERTS with the ALERT_N level, READ_MARKER and READ_COUNTERS; a number out of
range is answered RANGE. The bytes in which the bodies of STATUS and READ_REGION give their fields follow
notes/assumptions/20.md, and the coalesce limit that STATUS shows outside a session notes/assumptions/34.md. -/
def Obligations.ReadingCommandsOnlyAnswer : Prop :=
  ∀ (s : State) (d : Delivery), CommandTaken s →
    (∀ (g : Byte) (body : List Byte), Carries d (.status g) → statusBody g.toNat s = some body →
      exec (.status g) (handed .service d s) = .next (answered 129 .ok body s))
    ∧ (∀ g : Byte, g.toNat < 5 → ∃ body, statusBody g.toNat s = some body)
    ∧ (∀ g : Byte, Carries d (.status g) → 5 ≤ g.toNat →
      exec (.status g) (handed .service d s) = .next (answered 129 .range [] s))
    ∧ (∀ p : Param, Carries d (.readParam (BitVec.ofNat 8 (paramNumber p).val)) →
      exec (.readParam (BitVec.ofNat 8 (paramNumber p).val)) (handed .service d s) = .next (answered 130 .ok
        (BitVec.ofNat 8 (paramNumber p).val :: beBytes (if paramMax p < 256 then 1 else 2) (param p s)) s))
    ∧ (∀ n : Byte, Carries d (.readParam n) → 12 ≤ n.toNat →
      exec (.readParam n) (handed .service d s) = .next (answered 130 .range [] s))
    ∧ (∀ (n : Byte) (i : Fin 32), Carries d (.readRegion n) → n.toNat = i.val →
      exec (.readRegion n) (handed .service d s) = .next (answered 134 .ok (regionBody i s) s))
    ∧ (∀ n : Byte, Carries d (.readRegion n) → 32 ≤ n.toNat →
      exec (.readRegion n) (handed .service d s) = .next (answered 134 .range [] s))
    ∧ (Carries d .readAlerts → exec .readAlerts (handed .service d s) = .next (answered 141 .ok
        [s.alerts.pending, s.alerts.mask, if s.alerts.pending &&& ~~~s.alerts.mask = 0 then 0 else 1] s))
    ∧ (Carries d .readMarker → exec .readMarker (handed .service d s) = .next (answered 144 .ok
        ((if s.replica.marker.valid then 1 else 0)
          :: beBytes 4 s.replica.marker.value.toNat ++ [BitVec.ofNat 8 s.replica.marker.region.val]) s))
    ∧ (∀ (n : Byte) (h : n.toNat < 29), Carries d (.readCounters n) →
      exec (.readCounters n) (handed .service d s) =
        .next (answered 145 .ok (n :: beBytes 4 (s.counters[n.toNat])) s))
    ∧ (∀ n : Byte, Carries d (.readCounters n) → 29 ≤ n.toNat →
      exec (.readCounters n) (handed .service d s) = .next (answered 145 .range [] s))

/-- WRITE_PARAM (R136, R193, R194): an unknown number or a value outside the parameter's range is answered RANGE, then a
parameter that is fixed while the part's own state is not OFF is answered STATE; otherwise the value is stored and answered,
and a mirror-link divisor becomes pending and due for both halves of its line, a service divisor pending and due at the end of
this response. -/
def Obligations.WriteParamStoresInRange : Prop :=
  ∀ (s : State) (p : Param) (v : BitVec 16) (d : Delivery), CommandTaken s →
    (∀ n : Byte, Carries d (.writeParam n v) → 12 ≤ n.toNat →
      exec (.writeParam n v) (handed .service d s) = .next (answered 131 .range [] s))
    ∧ (Carries d (.writeParam (BitVec.ofNat 8 (paramNumber p).val) v) →
    (v.toNat < paramMin p ∨ paramMax p < v.toNat →
      exec (.writeParam (BitVec.ofNat 8 (paramNumber p).val) v) (handed .service d s) = .next (answered 131 .range [] s))
    ∧ (paramMin p ≤ v.toNat → v.toNat ≤ paramMax p → paramOffOnly p = true → ownStateOff s = false →
      exec (.writeParam (BitVec.ofNat 8 (paramNumber p).val) v) (handed .service d s) = .next (answered 131 .state [] s))
    ∧ (paramMin p ≤ v.toNat → v.toNat ≤ paramMax p → paramOffOnly p = false ∨ ownStateOff s = true →
      let body := BitVec.ofNat 8 (paramNumber p).val :: beBytes (if paramMax p < 256 then 1 else 2) v.toNat
      let stored := { s with params := s.params.set (paramNumber p) v.toNat }
      (p ≠ .linkDivisor → p ≠ .serviceDivisor →
        exec (.writeParam (BitVec.ofNat 8 (paramNumber p).val) v) (handed .service d s) = .next (answered 131 .ok body stored))
      ∧ (p = .linkDivisor →
        exec (.writeParam (BitVec.ofNat 8 (paramNumber p).val) v) (handed .service d s) = .next (answered 131 .ok body { stored with
          linkLine := { s.linkLine with txPending := some v.toNat, rxPending := some v.toNat, due := true } }))
      ∧ (p = .serviceDivisor → s.port.responses = [] → s.svcLine.tx = none →
        exec (.writeParam (BitVec.ofNat 8 (paramNumber p).val) v) (handed .service d s) = .next { stored with
          svcLine := { s.svcLine with txPending := some v.toNat, rxPending := some v.toNat, due := false },
          port := { s.port with responses := [{ code := 131, status := .ok, body := body, divisorDue := true }] } })))

/-- LOAD_REGION by its checks in their order (R77): RANGE, STATE, OVERLAP, CAPACITY; then the entry is replaced and the writes
that wait for their forward event become unsettled if the change is one R78 allows only in OFF (R79, R82). CLEAR_REGION
likewise, an empty entry staying empty (R80). The writes that become unsettled are those in QUEUED, which hold a tracking entry
and have not reached their forward event (R82, notes/assumptions/23.md). -/
def Obligations.RegionCommandsChangeTheTable : Prop :=
  (∀ (s : State) (index kind policy : Byte) (base count : BitVec 32) (d : Delivery),
    CommandTaken s → Carries d (.loadRegion index base count kind policy) →
    (regionIndex index = none ∨ loadedRegion base count kind policy = none →
      exec (.loadRegion index base count kind policy) (handed .service d s) = .next (answered 132 .range [] s))
    ∧ ∀ (i : Fin 32) (r : Region), regionIndex index = some i → loadedRegion base count kind policy = some r →
      (ownStateOff s = false → (r.isProtected = true ∨ ∃ q, s.regions[i] = some q ∧ q.isProtected = true) →
        exec (.loadRegion index base count kind policy) (handed .service d s) = .next (answered 132 .state [] s))
      ∧ (ownStateOff s = true ∨ (r.isProtected = false ∧ ∀ q ∈ s.regions[i], q.isProtected = false) →
        ((∃ j : Fin 32, j ≠ i ∧ ∃ q, s.regions[j] = some q ∧ r.overlaps q = true) →
          exec (.loadRegion index base count kind policy) (handed .service d s) = .next (answered 132 .overlap [] s))
        ∧ ((∀ j : Fin 32, j ≠ i → ∀ q ∈ s.regions[j], r.overlaps q = false) →
          (r.isMirror = true → 65536 < mirrorPageTotal (s.regions.set i (some r)) →
            exec (.loadRegion index base count kind policy) (handed .service d s) = .next (answered 132 .capacity [] s))
          ∧ (r.isMirror = false ∨ mirrorPageTotal (s.regions.set i (some r)) ≤ 65536 →
            exec (.loadRegion index base count kind policy) (handed .service d s) = .next (answered 132 .ok
              (beBytes 3 (mirrorPageTotal (s.regions.set i (some r)))
                ++ beBytes 4 (regionDigest (s.regions.set i (some r))).toNat)
              { s with
                regions := s.regions.set i (some r),
                path := if r.isProtected = true ∨ ∃ q ∈ s.regions[i], q.isProtected = true
                  then s.path.unsettle else s.path })))))
  ∧ (∀ (s : State) (index : Byte) (d : Delivery), CommandTaken s → Carries d (.clearRegion index) →
    (regionIndex index = none → exec (.clearRegion index) (handed .service d s) = .next (answered 133 .range [] s))
    ∧ ∀ i : Fin 32, regionIndex index = some i →
      (s.regions[i] = none → exec (.clearRegion index) (handed .service d s) = .next (answered 133 .ok
        (3 :: beBytes 3 (mirrorPageTotal s.regions) ++ beBytes 4 (regionDigest s.regions).toNat) s))
      ∧ ∀ q : Region, s.regions[i] = some q →
        (ownStateOff s = false → q.isProtected = true →
          exec (.clearRegion index) (handed .service d s) = .next (answered 133 .state [] s))
        ∧ (ownStateOff s = true ∨ q.isProtected = false →
          exec (.clearRegion index) (handed .service d s) = .next (answered 133 .ok
            ((match q.kind with
              | .mirror _ => 0
              | .guard => 1
              | .signal => 2) :: beBytes 3 (mirrorPageTotal (s.regions.set i none))
                ++ beBytes 4 (regionDigest (s.regions.set i none)).toNat)
            { s with
              regions := s.regions.set i none,
              path := if q.isProtected = true then s.path.unsettle else s.path })))
  ∧ (∀ p : Path, p.unsettle = { p with table := p.unsettle.table }
    ∧ (∀ (t : Fin 64) (e : TrackEntry), p.table[t] = .used e → p.unsettle.table[t] = .used (
        if e.req.kind = .write ∧ e.state = .queued then { e with unsettled := true } else e))
    ∧ (∀ t : Fin 64, (∀ e : TrackEntry, p.table[t] ≠ .used e) → p.unsettle.table[t] = p.table[t]))

/-- START (R43, R82, R148, R192, R195): STATE outside OFF, then BUSY while unsettled writes remain. In the primary role a new
session is offered with the sweep's values and the drain count at 0: FULL with every page of every MIRROR region marked in
ascending order and catch-up-active set, CLEAN with no mark and the clean start armed. In the replica role listening begins;
that the drain count is put to 0 there too is the model's reading of R192 (notes/assumptions/28.md). -/
def Obligations.StartOffersASessionOrListens : Prop :=
  ∀ (s : State) (c : Instr) (d : Delivery), CommandTaken s → Carries d c → c = .startFull ∨ c = .startClean →
    (ownStateOff s = false → exec c (handed .service d s) = .next (answered 135 .state [] s))
    ∧ (ownStateOff s = true → s.path.unsettledCount ≠ 0 → exec c (handed .service d s) = .next (answered 135 .busy [] s))
    ∧ (s.role = .replica → s.replica.state = .off → s.path.unsettledCount = 0 →
      exec c (handed .service d s) = .next (answered 135 .ok [] { s with
        replica := { s.replica with state := .listening }, mirror := { s.mirror with drainCount := 0 } }))
    ∧ (s.role = .primary → s.mirror.state = .off → sweepAtRest s.mirror → s.path.unsettledCount = 0 →
      (c = .startClean →
        exec c (handed .service d s) = .next (answered 135 .ok [] (offered { s with mirror := { s.mirror with
          catchupActive := false, cleanArmed := true, drainCount := 0 } })))
      ∧ (c = .startFull → ∃ marks : List Nat,
        exec c (handed .service d s) = .next (answered 135 .ok [] (offered { s with mirror := { s.mirror with
          catchupActive := true, cleanArmed := false, drainCount := 0, marks := marks } }))
        ∧ marks.Pairwise (· < ·)
        ∧ ∀ p : Nat, p ∈ marks ↔ ∃ i : Fin 32, ∃ r ∈ s.regions[i], r.isMirror = true ∧ r.covers p = true))

/-- STOP and the ends of a drain that is not normal. STOP NOW is answered STATE in OFF and otherwise stops the part's own side
(R48, R148, R195); STOP DRAIN is answered STATE outside STREAMING and CATCHUP and otherwise begins to drain, its response
deferred and the slot held (R49, R191, R195); the drain timer and ABORT end a drain as STOP NOW does, with TIMEOUT and with
ABORTED after ABORT's own OK (R53, R191); ABORT with nothing deferred is answered OK (R196). -/
def Obligations.StopAndDrain : Prop :=
  (∀ (s : State) (d : Delivery), CommandTaken s →
    (Carries d .stopNow →
      (ownStateOff s = true → exec .stopNow (handed .service d s) = .next (answered 136 .state [] s))
      ∧ (s.role = .primary → s.mirror.state ≠ .off →
        exec .stopNow (handed .service d s) = .next (answered 136 .ok [] (stoppedNow s)))
      ∧ (s.role = .replica → s.replica.state = .session →
        exec .stopNow (handed .service d s) = .next (answered 136 .ok [] (sessionLeft (some .stopped) .off s)))
      ∧ (s.role = .replica → s.replica.state = .listening →
        exec .stopNow (handed .service d s) =
          .next (answered 136 .ok [] { s with replica := { s.replica with state := .off } })))
    ∧ (Carries d .stopDrain →
      (s.role = .primary → s.mirror.state = .streaming ∨ s.mirror.state = .catchup →
        exec .stopDrain (handed .service d s) = .next { s with
          mirror := { s.mirror with state := .draining, drainCount := 0,
                                    drainTimer := some (param .drainTimeout s) },
          port := { s.port with slot := some .stopDrain } })
      ∧ (s.role = .replica ∨ ¬(s.mirror.state = .streaming ∨ s.mirror.state = .catchup) →
        exec .stopDrain (handed .service d s) = .next (answered 136 .state [] s)))
    ∧ (Carries d .abort → exec .abort (handed .service d s) = .next (answered 137 .ok [] s)))
  ∧ (∀ (s : State) (d : Delivery), ResponseFits s → s.port.slot = some .stopDrain → Carries d .abort →
    exec .abort (handed .service d s) = .next (drainEnded .aborted [] (stoppedNow (answered 137 .ok [] s))))
  ∧ (∀ s : State, s.phase = .running → s.mirror.state = .draining → s.mirror.drainTimer.isSome = true →
    exec .drainTimerExpiry s = .next (drainEnded .timeout [] (stoppedNow s)))

/-- RESYNC by its checks in their order (R54, R196): RANGE for values out of range, STATE outside the primary role's LINKING,
STREAMING, CATCHUP and TRACKING, RANGE when the lookup finds no MIRROR region. Carried out it marks the pages of its plan,
setting catch-up-active, so that STREAMING becomes CATCHUP, and reports the scope performed and how many pages joined the map.
The plan: PAGES itself where the range lies in the MIRROR region of its base page, and otherwise every MIRROR region that shares
a page with the range; the region that REGION names; every MIRROR region for ALL. A plan without pages changes nothing but in
STREAMING, where it too sets catch-up-active (R54, notes/assumptions/33.md). -/
def Obligations.ResyncMarksItsScope : Prop :=
  (∀ (s : State) (scope : ResyncScope) (d : Delivery), CommandTaken s → MapOk s → Carries d (.resync scope) →
    (resyncInRange scope = false → exec (.resync scope) (handed .service d s) = .next (answered 138 .range [] s))
    ∧ (resyncInRange scope = true →
      (s.role = .replica ∨ s.mirror.state = .off ∨ s.mirror.state = .draining →
        exec (.resync scope) (handed .service d s) = .next (answered 138 .state [] s))
      ∧ (s.role = .primary → s.mirror.state ≠ .off → s.mirror.state ≠ .draining →
        (resyncPlan scope s = none → exec (.resync scope) (handed .service d s) = .next (answered 138 .range [] s))
        ∧ ∀ plan : ResyncPlan, resyncPlan scope s = some plan → plan.pages ≠ [] → ∃ t : State,
          exec (.resync scope) (handed .service d s) = .next (answered 138 .ok
            (BitVec.ofNat 8 plan.scope :: beBytes 3 (t.mirror.marks.length - s.mirror.marks.length)) t)
          ∧ t = { s with mirror := t.mirror }
          ∧ t.mirror.catchupActive = true
          ∧ t.mirror.state = (if s.mirror.state = .streaming then .catchup else s.mirror.state)
          ∧ t.mirror.marks.Pairwise (· < ·)
          ∧ (∀ p : Nat, p ∈ t.mirror.marks ↔ p ∈ s.mirror.marks ∨ p ∈ plan.pages)
          ∧ t.mirror.copying = s.mirror.copying.map (fun c => if c.page ∈ plan.pages then { c with recopy := true } else c))))
  ∧ (∀ (s : State) (d : Delivery) (plan : ResyncPlan), CommandTaken s → Carries d (.resync .all) → s.role = .primary →
    s.mirror.state ≠ .off → s.mirror.state ≠ .draining → resyncPlan .all s = some plan → plan.pages = [] →
    (s.mirror.state ≠ .streaming → exec (.resync .all) (handed .service d s) = .next (answered 138 .ok [2, 0, 0, 0] s))
    ∧ (s.mirror.state = .streaming → s.mirror.catchupActive = false →
      exec (.resync .all) (handed .service d s) = .next (answered 138 .ok [2, 0, 0, 0] { s with
        mirror := { s.mirror with state := .catchup, catchupActive := true, cursor := 0, passCount := 0 } })))
  ∧ (∀ (s : State) (base count : BitVec 32),
    ((∀ i r, regionAt s.regions base.toNat = some (i, r) → r.isMirror = false) →
      resyncPlan (.pages base count) s = none)
    ∧ (∀ i r, regionAt s.regions base.toNat = some (i, r) → r.isMirror = true →
      (base.toNat + count.toNat ≤ r.base + r.count →
        resyncPlan (.pages base count) s = some { scope := 0, pages := List.range' base.toNat count.toNat })
      ∧ (r.base + r.count < base.toNat + count.toNat → ∃ pages : List Nat,
        resyncPlan (.pages base count) s = some { scope := 1, pages := pages }
        ∧ ∀ p : Nat, p ∈ pages ↔ ∃ k : Fin 32, ∃ q ∈ s.regions[k], q.isMirror = true ∧ q.covers p = true
            ∧ q.base < base.toNat + count.toNat ∧ base.toNat < q.base + q.count)))
  ∧ (∀ (s : State) (index : Byte),
    (∀ (i : Fin 32) (r : Region), index.toNat = i.val → s.regions[i] = some r → r.isMirror = true →
      resyncPlan (.region index) s = some { scope := 1, pages := List.range' r.base r.count })
    ∧ (∀ i : Fin 32, index.toNat = i.val → (∀ r ∈ s.regions[i], r.isMirror = false) →
      resyncPlan (.region index) s = none))
  ∧ (∀ s : State, ∃ pages : List Nat, resyncPlan .all s = some { scope := 2, pages := pages }
    ∧ ∀ p : Nat, p ∈ pages ↔ ∃ i : Fin 32, ∃ r ∈ s.regions[i], r.isMirror = true ∧ r.covers p = true)

/-- READ_EXCEPTION reports and removes the oldest record (R178), in the bytes of notes/assumptions/20.md; CLEAR_OVERFLOW
reports the lost count and clears it with the flag (R179); ACK_ALERTS removes the named causes and reports the rest (R182);
SET_ALERT_MASK replaces the mask set (R183); CLEAR_COUNTERS clears one counter, or all with 255, and is answered RANGE for
another number (R198). -/
def Obligations.ClearingCommandsClearWhatTheyName : Prop :=
  ∀ (s : State) (d : Delivery), CommandTaken s →
    (Carries d .readException → exec .readException (handed .service d s) = .next (answered 139 .ok (exceptionBody s)
      { s with exceptions := { s.exceptions with records := s.exceptions.records.drop 1 } }))
    ∧ (s.exceptions.records = [] →
      exceptionBody s = List.replicate 13 0 ++ [if s.exceptions.overflow then 1 else 0])
    ∧ (∀ (q : ExceptionRecord) (rest : List ExceptionRecord), s.exceptions.records = q :: rest →
      exceptionBody s = 1 :: recordBytes q ++ [BitVec.ofNat 8 rest.length, if s.exceptions.overflow then 1 else 0])
    ∧ (Carries d .clearOverflow →
      exec .clearOverflow (handed .service d s) = .next (answered 140 .ok (beBytes 2 s.exceptions.lost)
        { s with exceptions := { s.exceptions with overflow := false, lost := 0 } }))
    ∧ (∀ causes : Byte, Carries d (.ackAlerts causes) →
      exec (.ackAlerts causes) (handed .service d s) = .next (answered 142 .ok [s.alerts.pending &&& ~~~causes]
        { s with alerts := { s.alerts with pending := s.alerts.pending &&& ~~~causes } }))
    ∧ (∀ causes : Byte, Carries d (.setAlertMask causes) →
      exec (.setAlertMask causes) (handed .service d s) = .next (answered 143 .ok [causes, s.alerts.pending]
        { s with alerts := { s.alerts with mask := causes } }))
    ∧ (∀ (n : Byte) (h : n.toNat < 29), Carries d (.clearCounters n) →
      exec (.clearCounters n) (handed .service d s) = .next (answered 146 .ok []
        { s with counters := s.counters.set n.toNat 0 }))
    ∧ (Carries d (.clearCounters 255) → exec (.clearCounters 255) (handed .service d s) =
      .next (answered 146 .ok [] { s with counters := Vector.replicate 29 0 }))
    ∧ (∀ n : Byte, Carries d (.clearCounters n) → 29 ≤ n.toNat → n ≠ 255 →
      exec (.clearCounters n) (handed .service d s) = .next (answered 146 .range [] s))

/-- SET_ROLE (R200) and PROMOTE (R171, R201) by their checks in their order. A role that changes makes waiting writes unsettled
(R82); taking up the replica role makes the consistency UNKNOWN and lets a paused frame go on (R138, R170); a promotion leaves
a session with BYE(PROMOTED) and ends with the role PRIMARY and the replica state OFF. -/
def Obligations.RoleCommandsChangeTheRole : Prop :=
  (∀ (s : State) (d : Delivery), CommandTaken s →
    (∀ b : Byte, Carries d (.setRole b) → 2 ≤ b.toNat →
      exec (.setRole b) (handed .service d s) = .next (answered 147 .range [] s))
    ∧ (∀ b : Byte, Carries d (.setRole b) → b.toNat ≤ 1 → ownStateOff s = false →
      exec (.setRole b) (handed .service d s) = .next (answered 147 .state [] s))
    ∧ (∀ b : Byte, Carries d (.setRole b) → b.toNat ≤ 1 → ownStateOff s = true → s.path.ownOutstanding = true →
      exec (.setRole b) (handed .service d s) = .next (answered 147 .busy [] s))
    ∧ (ownStateOff s = true → s.path.ownOutstanding = false →
      (Carries d (.setRole 0) → exec (.setRole 0) (handed .service d s) = .next (answered 147 .ok [0]
        (if s.role = .primary then s else { s with role := .primary, path := s.path.unsettle })))
      ∧ (Carries d (.setRole 1) → exec (.setRole 1) (handed .service d s) = .next (answered 147 .ok [1]
        (if s.role = .replica then s else { s with
          role := .replica, path := s.path.unsettle,
          replica := { s.replica with consistency := .unknown, hold := false },
          linkLine := { s.linkLine with tx := s.linkLine.tx.map (fun t =>
            if t.paused then { t with begun := t.begun + 1, paused := false } else t) } })))))
  ∧ (∀ (s : State) (force : Byte) (d : Delivery), CommandTaken s → Carries d (.promote force) →
    (2 ≤ force.toNat → exec (.promote force) (handed .service d s) = .next (answered 148 .range [] s))
    ∧ (force.toNat ≤ 1 → s.role = .primary → exec (.promote force) (handed .service d s) = .next (answered 148 .state [] s))
    ∧ (s.role = .replica →
      (force = 0 → s.replica.consistency ≠ .consistent →
        exec (.promote force) (handed .service d s) = .next (answered 148 .notConsistent [] s))
      ∧ (force = 1 ∨ (force = 0 ∧ s.replica.consistency = .consistent) →
        (s.replica.applying.isSome = true → exec (.promote force) (handed .service d s) = .next (answered 148 .busy [] s))
        ∧ (s.replica.applying = none →
          let t := if s.replica.state = .session then sessionLeft (some .promoted) .off s
            else { s with replica := { s.replica with state := .off } }
          exec (.promote force) (handed .service d s) = .next (answered 148 .ok
            [match s.replica.consistency with
              | .unknown => 0
              | .catching => 1
              | .consistent => 2
              | .broken => 3, if s.replica.marker.valid then 1 else 0]
            { t with role := .primary, path := s.path.unsettle })))))

/-- SOFT_RESET (R145, R202, R203): the part's own side is stopped as STOP NOW stops it, and in OFF nothing is to stop; the link
unit is IDLE with its timers stopped, both receivers go to HUNT, a frame under collection being counted as abandoned, and
everything else is kept. With no apply write in flight its OK is sent at its take; otherwise it holds the slot until
SOFT_RESET_COMPLETE finds none in flight. -/
def Obligations.SoftResetStopsAndCompletes : Prop :=
  (∀ (s : State) (d : Delivery), CommandTaken s → Carries d .softReset →
    (ownStateOff s = true → softStopped s = s)
    ∧ (s.role = .primary → s.mirror.state ≠ .off → softStopped s = stoppedNow s)
    ∧ (s.role = .replica → s.replica.state = .session → softStopped s = sessionLeft (some .stopped) .off s)
    ∧ (s.role = .replica → s.replica.state = .listening →
      softStopped s = { s with replica := { s.replica with state := .off } })
    ∧ exec .softReset (handed .service d s) = .next (
        if s.replica.applying = none then answered 149 .ok [] (softReset s)
        else { softReset s with port := { s.port with slot := some .softReset } }))
  ∧ (∀ s : State, s.phase = .running → s.port.slot = some .softReset →
    (s.replica.applying = none → exec .softResetComplete s = .next { s with
      port := { slot := none, responses := s.port.responses ++
        [{ code := 149, status := .ok, body := [], divisorDue := false }] } })
    ∧ (s.replica.applying.isSome = true → exec .softResetComplete s = .next s))

/-! ### Frames and exceptions -/

/-- A mirror-link frame whose fields R109 to R111 define, sent as bytes with its CRC-16, is read back by checks 1 to 4 of R111
as the same frame (R107, R108, R110); so is every frame a part sends, read from the data bytes of its characters (R134, R137). -/
def Obligations.EncodedLinkFramesParseBack : Prop :=
  ∀ f : LinkFrame, frameWf f = true → parseLink (encodeLink f) = .ok f
    ∧ parseLink ((sentCharacters (encodeLink f)).map Character.data) = .ok f

/-- An exception reported to the list, by the first of the four cases that holds; the list stays within its 16 records
(R176). -/
def Obligations.ReportedExceptionsFollowTheCases : Prop :=
  ∀ (s : State) (kind : ExceptionKind) (source : Option Byte) (a : LineAddr) (i : Option (Fin 32)),
    (s.exceptions.overflow = true →
      report kind source a i s = { s with exceptions := { s.exceptions with lost := min 65535 (s.exceptions.lost + 1) } })
    ∧ (s.exceptions.overflow = false →
      (∀ (front : List ExceptionRecord) (q : ExceptionRecord), s.exceptions.records = front ++ [q] →
        q.kind = kind → q.source = source → q.region = i →
        report kind source a i s = { s with exceptions := { s.exceptions with
          records := front ++ [{ q with count := min 255 (q.count + 1) }] } })
      ∧ ((∀ (front : List ExceptionRecord) (q : ExceptionRecord), s.exceptions.records = front ++ [q] →
          ¬(q.kind = kind ∧ q.source = source ∧ q.region = i)) →
        (s.exceptions.records.length < 16 →
          report kind source a i s = alerted .exception { s with exceptions := { s.exceptions with
            records := s.exceptions.records
              ++ [{ kind := kind, source := source, addr := a, region := i, count := 1 }] } })
        ∧ (16 ≤ s.exceptions.records.length →
          report kind source a i s = alerted .listOverflow { s with exceptions := { s.exceptions with
            overflow := true, lost := min 65535 (s.exceptions.lost + 1) } })))
    ∧ (s.exceptions.records.length ≤ 16 → (report kind source a i s).exceptions.records.length ≤ 16)

/-! ### Invariants that every step keeps -/

/-- Every step keeps the exception list within its bounds, with the lost count above 0 exactly while the overflow flag is set
(R174, R176, R179). -/
def Obligations.StepsKeepTheExceptionList : Prop :=
  ∀ s t : State, ExceptionsOk s → step s = .next t → ExceptionsOk t

/-- Every step keeps the region table without overlaps and within its bounds (R70), and every parameter in its range (R194). -/
def Obligations.StepsKeepTheConfigurationInBounds : Prop :=
  (∀ s t : State, RegionsOk s → step s = .next t → RegionsOk t)
  ∧ ∀ s t : State, ParamsOk s → step s = .next t → ParamsOk t

/-- Every step keeps role, mirror state, session state, timers and command slot in agreement (R28, R115, R118, R122, R123,
R147, R189, R191, R202; the table of 2.1). -/
def Obligations.StepsKeepTheBlocksCoordinated : Prop :=
  ∀ s t : State, Coordinated s → step s = .next t → Coordinated t

/-- Every step keeps the dirty page map an ascending set with the COPYING page in it, and catch-up-active, the sweep's values
and the reservation in agreement with the mirror state (R8, R28, R29, R33, R34, R38). -/
def Obligations.StepsKeepTheDirtyPageMap : Prop :=
  ∀ s t : State, Coordinated s → MapOk s → step s = .next t → MapOk t

/-- Every step keeps the replica apply unit in order: the apply queue's sequences, bound and HOLD level, one started frame at
most, and no session's fields outside a session (R147, R149, R155, R160 to R164). -/
def Obligations.StepsKeepTheApplyQueue : Prop :=
  ∀ s t : State, Coordinated s → ReplicaOk s → step s = .next t → ReplicaOk t

/-- Every step keeps at most one WELCOME, one acknowledgement frame and one BYE in the reply list, and nothing else (R165). -/
def Obligations.StepsKeepTheReplyList : Prop :=
  ∀ s t : State, RepliesOk s → step s = .next t → RepliesOk t

/-- Every step keeps the host queue, the answer queue, the internal source and the held list in agreement with the tracking
entries and the internal tags (R57, R61, R88, R93, R94, R96, R99, R102). -/
def Obligations.StepsKeepTheMemoryPath : Prop :=
  ∀ s t : State, PathOk s → step s = .next t → PathOk t

/-- Every step keeps the journal within its 512 places and slots and the held list within its 32 places with every pledge and
reservation counted, and the pledges equal to the pledged tracking entries (R5, R6, R7, R58). -/
def Obligations.StepsKeepTheJournalsRoom : Prop :=
  ∀ s t : State, PathOk s → RoomOk s → step s = .next t → RoomOk t

/-- Every step keeps each capture link at the AWAITING entry of its own write (R2, R9, R13, R88). -/
def Obligations.StepsKeepTheCaptureLinks : Prop :=
  ∀ s t : State, Coordinated s → CapturesOk s → step s = .next t → CapturesOk t

/-- Every step keeps the SENT entries first, with consecutive sequences up to the last assigned one and within the window, and
the send point at or before the first entry that is not SENT (R1, R16, R17, R18). -/
def Obligations.StepsKeepTheSendOrder : Prop :=
  ∀ s t : State, Coordinated s → MapOk s → CapturesOk s → SendOrderOk s → step s = .next t → SendOrderOk t
end

