-- ==== Sys2Proof/Laws/State.lean ====
section
/-! SUPPORT. One lemma per field per update of `State`, each true by computation, so that no proof unfolds an update. -/
namespace Sys2Proof.Machine

variable (s : State)

/-! ### `withRegions` -/

@[simp] theorem State.withRegions_pending (x : Vector (Option Region) 32) : (s.withRegions x).pending = s.pending := rfl
@[simp] theorem State.withRegions_phase (x : Vector (Option Region) 32) : (s.withRegions x).phase = s.phase := rfl
@[simp] theorem State.withRegions_role (x : Vector (Option Region) 32) : (s.withRegions x).role = s.role := rfl
@[simp] theorem State.withRegions_holdIn (x : Vector (Option Region) 32) : (s.withRegions x).holdIn = s.holdIn := rfl
@[simp] theorem State.withRegions_regions (x : Vector (Option Region) 32) : (s.withRegions x).regions = x := rfl
@[simp] theorem State.withRegions_params (x : Vector (Option Region) 32) : (s.withRegions x).params = s.params := rfl
@[simp] theorem State.withRegions_counters (x : Vector (Option Region) 32) : (s.withRegions x).counters = s.counters := rfl
@[simp] theorem State.withRegions_path (x : Vector (Option Region) 32) : (s.withRegions x).path = s.path := rfl
@[simp] theorem State.withRegions_journal (x : Vector (Option Region) 32) : (s.withRegions x).journal = s.journal := rfl
@[simp] theorem State.withRegions_held (x : Vector (Option Region) 32) : (s.withRegions x).held = s.held := rfl
@[simp] theorem State.withRegions_mirror (x : Vector (Option Region) 32) : (s.withRegions x).mirror = s.mirror := rfl
@[simp] theorem State.withRegions_link (x : Vector (Option Region) 32) : (s.withRegions x).link = s.link := rfl
@[simp] theorem State.withRegions_replica (x : Vector (Option Region) 32) : (s.withRegions x).replica = s.replica := rfl
@[simp] theorem State.withRegions_linkLine (x : Vector (Option Region) 32) : (s.withRegions x).linkLine = s.linkLine := rfl
@[simp] theorem State.withRegions_svcLine (x : Vector (Option Region) 32) : (s.withRegions x).svcLine = s.svcLine := rfl
@[simp] theorem State.withRegions_exceptions (x : Vector (Option Region) 32) : (s.withRegions x).exceptions = s.exceptions := rfl
@[simp] theorem State.withRegions_alerts (x : Vector (Option Region) 32) : (s.withRegions x).alerts = s.alerts := rfl
@[simp] theorem State.withRegions_port (x : Vector (Option Region) 32) : (s.withRegions x).port = s.port := rfl

/-! ### `withParams` -/

@[simp] theorem State.withParams_pending (x : Vector Nat 12) : (s.withParams x).pending = s.pending := rfl
@[simp] theorem State.withParams_phase (x : Vector Nat 12) : (s.withParams x).phase = s.phase := rfl
@[simp] theorem State.withParams_role (x : Vector Nat 12) : (s.withParams x).role = s.role := rfl
@[simp] theorem State.withParams_holdIn (x : Vector Nat 12) : (s.withParams x).holdIn = s.holdIn := rfl
@[simp] theorem State.withParams_regions (x : Vector Nat 12) : (s.withParams x).regions = s.regions := rfl
@[simp] theorem State.withParams_params (x : Vector Nat 12) : (s.withParams x).params = x := rfl
@[simp] theorem State.withParams_counters (x : Vector Nat 12) : (s.withParams x).counters = s.counters := rfl
@[simp] theorem State.withParams_path (x : Vector Nat 12) : (s.withParams x).path = s.path := rfl
@[simp] theorem State.withParams_journal (x : Vector Nat 12) : (s.withParams x).journal = s.journal := rfl
@[simp] theorem State.withParams_held (x : Vector Nat 12) : (s.withParams x).held = s.held := rfl
@[simp] theorem State.withParams_mirror (x : Vector Nat 12) : (s.withParams x).mirror = s.mirror := rfl
@[simp] theorem State.withParams_link (x : Vector Nat 12) : (s.withParams x).link = s.link := rfl
@[simp] theorem State.withParams_replica (x : Vector Nat 12) : (s.withParams x).replica = s.replica := rfl
@[simp] theorem State.withParams_linkLine (x : Vector Nat 12) : (s.withParams x).linkLine = s.linkLine := rfl
@[simp] theorem State.withParams_svcLine (x : Vector Nat 12) : (s.withParams x).svcLine = s.svcLine := rfl
@[simp] theorem State.withParams_exceptions (x : Vector Nat 12) : (s.withParams x).exceptions = s.exceptions := rfl
@[simp] theorem State.withParams_alerts (x : Vector Nat 12) : (s.withParams x).alerts = s.alerts := rfl
@[simp] theorem State.withParams_port (x : Vector Nat 12) : (s.withParams x).port = s.port := rfl

/-! ### `withCounters` -/

@[simp] theorem State.withCounters_pending (x : Vector Nat 29) : (s.withCounters x).pending = s.pending := rfl
@[simp] theorem State.withCounters_phase (x : Vector Nat 29) : (s.withCounters x).phase = s.phase := rfl
@[simp] theorem State.withCounters_role (x : Vector Nat 29) : (s.withCounters x).role = s.role := rfl
@[simp] theorem State.withCounters_holdIn (x : Vector Nat 29) : (s.withCounters x).holdIn = s.holdIn := rfl
@[simp] theorem State.withCounters_regions (x : Vector Nat 29) : (s.withCounters x).regions = s.regions := rfl
@[simp] theorem State.withCounters_params (x : Vector Nat 29) : (s.withCounters x).params = s.params := rfl
@[simp] theorem State.withCounters_counters (x : Vector Nat 29) : (s.withCounters x).counters = x := rfl
@[simp] theorem State.withCounters_path (x : Vector Nat 29) : (s.withCounters x).path = s.path := rfl
@[simp] theorem State.withCounters_journal (x : Vector Nat 29) : (s.withCounters x).journal = s.journal := rfl
@[simp] theorem State.withCounters_held (x : Vector Nat 29) : (s.withCounters x).held = s.held := rfl
@[simp] theorem State.withCounters_mirror (x : Vector Nat 29) : (s.withCounters x).mirror = s.mirror := rfl
@[simp] theorem State.withCounters_link (x : Vector Nat 29) : (s.withCounters x).link = s.link := rfl
@[simp] theorem State.withCounters_replica (x : Vector Nat 29) : (s.withCounters x).replica = s.replica := rfl
@[simp] theorem State.withCounters_linkLine (x : Vector Nat 29) : (s.withCounters x).linkLine = s.linkLine := rfl
@[simp] theorem State.withCounters_svcLine (x : Vector Nat 29) : (s.withCounters x).svcLine = s.svcLine := rfl
@[simp] theorem State.withCounters_exceptions (x : Vector Nat 29) : (s.withCounters x).exceptions = s.exceptions := rfl
@[simp] theorem State.withCounters_alerts (x : Vector Nat 29) : (s.withCounters x).alerts = s.alerts := rfl
@[simp] theorem State.withCounters_port (x : Vector Nat 29) : (s.withCounters x).port = s.port := rfl

/-! ### `withRole` -/

@[simp] theorem State.withRole_pending (x : Role) : (s.withRole x).pending = s.pending := rfl
@[simp] theorem State.withRole_phase (x : Role) : (s.withRole x).phase = s.phase := rfl
@[simp] theorem State.withRole_role (x : Role) : (s.withRole x).role = x := rfl
@[simp] theorem State.withRole_holdIn (x : Role) : (s.withRole x).holdIn = s.holdIn := rfl
@[simp] theorem State.withRole_regions (x : Role) : (s.withRole x).regions = s.regions := rfl
@[simp] theorem State.withRole_params (x : Role) : (s.withRole x).params = s.params := rfl
@[simp] theorem State.withRole_counters (x : Role) : (s.withRole x).counters = s.counters := rfl
@[simp] theorem State.withRole_path (x : Role) : (s.withRole x).path = s.path := rfl
@[simp] theorem State.withRole_journal (x : Role) : (s.withRole x).journal = s.journal := rfl
@[simp] theorem State.withRole_held (x : Role) : (s.withRole x).held = s.held := rfl
@[simp] theorem State.withRole_mirror (x : Role) : (s.withRole x).mirror = s.mirror := rfl
@[simp] theorem State.withRole_link (x : Role) : (s.withRole x).link = s.link := rfl
@[simp] theorem State.withRole_replica (x : Role) : (s.withRole x).replica = s.replica := rfl
@[simp] theorem State.withRole_linkLine (x : Role) : (s.withRole x).linkLine = s.linkLine := rfl
@[simp] theorem State.withRole_svcLine (x : Role) : (s.withRole x).svcLine = s.svcLine := rfl
@[simp] theorem State.withRole_exceptions (x : Role) : (s.withRole x).exceptions = s.exceptions := rfl
@[simp] theorem State.withRole_alerts (x : Role) : (s.withRole x).alerts = s.alerts := rfl
@[simp] theorem State.withRole_port (x : Role) : (s.withRole x).port = s.port := rfl

/-! ### `withHoldIn` -/

@[simp] theorem State.withHoldIn_pending (x : Bool) : (s.withHoldIn x).pending = s.pending := rfl
@[simp] theorem State.withHoldIn_phase (x : Bool) : (s.withHoldIn x).phase = s.phase := rfl
@[simp] theorem State.withHoldIn_role (x : Bool) : (s.withHoldIn x).role = s.role := rfl
@[simp] theorem State.withHoldIn_holdIn (x : Bool) : (s.withHoldIn x).holdIn = x := rfl
@[simp] theorem State.withHoldIn_regions (x : Bool) : (s.withHoldIn x).regions = s.regions := rfl
@[simp] theorem State.withHoldIn_params (x : Bool) : (s.withHoldIn x).params = s.params := rfl
@[simp] theorem State.withHoldIn_counters (x : Bool) : (s.withHoldIn x).counters = s.counters := rfl
@[simp] theorem State.withHoldIn_path (x : Bool) : (s.withHoldIn x).path = s.path := rfl
@[simp] theorem State.withHoldIn_journal (x : Bool) : (s.withHoldIn x).journal = s.journal := rfl
@[simp] theorem State.withHoldIn_held (x : Bool) : (s.withHoldIn x).held = s.held := rfl
@[simp] theorem State.withHoldIn_mirror (x : Bool) : (s.withHoldIn x).mirror = s.mirror := rfl
@[simp] theorem State.withHoldIn_link (x : Bool) : (s.withHoldIn x).link = s.link := rfl
@[simp] theorem State.withHoldIn_replica (x : Bool) : (s.withHoldIn x).replica = s.replica := rfl
@[simp] theorem State.withHoldIn_linkLine (x : Bool) : (s.withHoldIn x).linkLine = s.linkLine := rfl
@[simp] theorem State.withHoldIn_svcLine (x : Bool) : (s.withHoldIn x).svcLine = s.svcLine := rfl
@[simp] theorem State.withHoldIn_exceptions (x : Bool) : (s.withHoldIn x).exceptions = s.exceptions := rfl
@[simp] theorem State.withHoldIn_alerts (x : Bool) : (s.withHoldIn x).alerts = s.alerts := rfl
@[simp] theorem State.withHoldIn_port (x : Bool) : (s.withHoldIn x).port = s.port := rfl

/-! ### `withPath` -/

@[simp] theorem State.withPath_pending (x : Path) : (s.withPath x).pending = s.pending := rfl
@[simp] theorem State.withPath_phase (x : Path) : (s.withPath x).phase = s.phase := rfl
@[simp] theorem State.withPath_role (x : Path) : (s.withPath x).role = s.role := rfl
@[simp] theorem State.withPath_holdIn (x : Path) : (s.withPath x).holdIn = s.holdIn := rfl
@[simp] theorem State.withPath_regions (x : Path) : (s.withPath x).regions = s.regions := rfl
@[simp] theorem State.withPath_params (x : Path) : (s.withPath x).params = s.params := rfl
@[simp] theorem State.withPath_counters (x : Path) : (s.withPath x).counters = s.counters := rfl
@[simp] theorem State.withPath_path (x : Path) : (s.withPath x).path = x := rfl
@[simp] theorem State.withPath_journal (x : Path) : (s.withPath x).journal = s.journal := rfl
@[simp] theorem State.withPath_held (x : Path) : (s.withPath x).held = s.held := rfl
@[simp] theorem State.withPath_mirror (x : Path) : (s.withPath x).mirror = s.mirror := rfl
@[simp] theorem State.withPath_link (x : Path) : (s.withPath x).link = s.link := rfl
@[simp] theorem State.withPath_replica (x : Path) : (s.withPath x).replica = s.replica := rfl
@[simp] theorem State.withPath_linkLine (x : Path) : (s.withPath x).linkLine = s.linkLine := rfl
@[simp] theorem State.withPath_svcLine (x : Path) : (s.withPath x).svcLine = s.svcLine := rfl
@[simp] theorem State.withPath_exceptions (x : Path) : (s.withPath x).exceptions = s.exceptions := rfl
@[simp] theorem State.withPath_alerts (x : Path) : (s.withPath x).alerts = s.alerts := rfl
@[simp] theorem State.withPath_port (x : Path) : (s.withPath x).port = s.port := rfl

/-! ### `withJournal` -/

@[simp] theorem State.withJournal_pending (x : Journal) : (s.withJournal x).pending = s.pending := rfl
@[simp] theorem State.withJournal_phase (x : Journal) : (s.withJournal x).phase = s.phase := rfl
@[simp] theorem State.withJournal_role (x : Journal) : (s.withJournal x).role = s.role := rfl
@[simp] theorem State.withJournal_holdIn (x : Journal) : (s.withJournal x).holdIn = s.holdIn := rfl
@[simp] theorem State.withJournal_regions (x : Journal) : (s.withJournal x).regions = s.regions := rfl
@[simp] theorem State.withJournal_params (x : Journal) : (s.withJournal x).params = s.params := rfl
@[simp] theorem State.withJournal_counters (x : Journal) : (s.withJournal x).counters = s.counters := rfl
@[simp] theorem State.withJournal_path (x : Journal) : (s.withJournal x).path = s.path := rfl
@[simp] theorem State.withJournal_journal (x : Journal) : (s.withJournal x).journal = x := rfl
@[simp] theorem State.withJournal_held (x : Journal) : (s.withJournal x).held = s.held := rfl
@[simp] theorem State.withJournal_mirror (x : Journal) : (s.withJournal x).mirror = s.mirror := rfl
@[simp] theorem State.withJournal_link (x : Journal) : (s.withJournal x).link = s.link := rfl
@[simp] theorem State.withJournal_replica (x : Journal) : (s.withJournal x).replica = s.replica := rfl
@[simp] theorem State.withJournal_linkLine (x : Journal) : (s.withJournal x).linkLine = s.linkLine := rfl
@[simp] theorem State.withJournal_svcLine (x : Journal) : (s.withJournal x).svcLine = s.svcLine := rfl
@[simp] theorem State.withJournal_exceptions (x : Journal) : (s.withJournal x).exceptions = s.exceptions := rfl
@[simp] theorem State.withJournal_alerts (x : Journal) : (s.withJournal x).alerts = s.alerts := rfl
@[simp] theorem State.withJournal_port (x : Journal) : (s.withJournal x).port = s.port := rfl

/-! ### `withHeld` -/

@[simp] theorem State.withHeld_pending (x : List HeldRecord) : (s.withHeld x).pending = s.pending := rfl
@[simp] theorem State.withHeld_phase (x : List HeldRecord) : (s.withHeld x).phase = s.phase := rfl
@[simp] theorem State.withHeld_role (x : List HeldRecord) : (s.withHeld x).role = s.role := rfl
@[simp] theorem State.withHeld_holdIn (x : List HeldRecord) : (s.withHeld x).holdIn = s.holdIn := rfl
@[simp] theorem State.withHeld_regions (x : List HeldRecord) : (s.withHeld x).regions = s.regions := rfl
@[simp] theorem State.withHeld_params (x : List HeldRecord) : (s.withHeld x).params = s.params := rfl
@[simp] theorem State.withHeld_counters (x : List HeldRecord) : (s.withHeld x).counters = s.counters := rfl
@[simp] theorem State.withHeld_path (x : List HeldRecord) : (s.withHeld x).path = s.path := rfl
@[simp] theorem State.withHeld_journal (x : List HeldRecord) : (s.withHeld x).journal = s.journal := rfl
@[simp] theorem State.withHeld_held (x : List HeldRecord) : (s.withHeld x).held = x := rfl
@[simp] theorem State.withHeld_mirror (x : List HeldRecord) : (s.withHeld x).mirror = s.mirror := rfl
@[simp] theorem State.withHeld_link (x : List HeldRecord) : (s.withHeld x).link = s.link := rfl
@[simp] theorem State.withHeld_replica (x : List HeldRecord) : (s.withHeld x).replica = s.replica := rfl
@[simp] theorem State.withHeld_linkLine (x : List HeldRecord) : (s.withHeld x).linkLine = s.linkLine := rfl
@[simp] theorem State.withHeld_svcLine (x : List HeldRecord) : (s.withHeld x).svcLine = s.svcLine := rfl
@[simp] theorem State.withHeld_exceptions (x : List HeldRecord) : (s.withHeld x).exceptions = s.exceptions := rfl
@[simp] theorem State.withHeld_alerts (x : List HeldRecord) : (s.withHeld x).alerts = s.alerts := rfl
@[simp] theorem State.withHeld_port (x : List HeldRecord) : (s.withHeld x).port = s.port := rfl

/-! ### `withMirror` -/

@[simp] theorem State.withMirror_pending (x : Mirror) : (s.withMirror x).pending = s.pending := rfl
@[simp] theorem State.withMirror_phase (x : Mirror) : (s.withMirror x).phase = s.phase := rfl
@[simp] theorem State.withMirror_role (x : Mirror) : (s.withMirror x).role = s.role := rfl
@[simp] theorem State.withMirror_holdIn (x : Mirror) : (s.withMirror x).holdIn = s.holdIn := rfl
@[simp] theorem State.withMirror_regions (x : Mirror) : (s.withMirror x).regions = s.regions := rfl
@[simp] theorem State.withMirror_params (x : Mirror) : (s.withMirror x).params = s.params := rfl
@[simp] theorem State.withMirror_counters (x : Mirror) : (s.withMirror x).counters = s.counters := rfl
@[simp] theorem State.withMirror_path (x : Mirror) : (s.withMirror x).path = s.path := rfl
@[simp] theorem State.withMirror_journal (x : Mirror) : (s.withMirror x).journal = s.journal := rfl
@[simp] theorem State.withMirror_held (x : Mirror) : (s.withMirror x).held = s.held := rfl
@[simp] theorem State.withMirror_mirror (x : Mirror) : (s.withMirror x).mirror = x := rfl
@[simp] theorem State.withMirror_link (x : Mirror) : (s.withMirror x).link = s.link := rfl
@[simp] theorem State.withMirror_replica (x : Mirror) : (s.withMirror x).replica = s.replica := rfl
@[simp] theorem State.withMirror_linkLine (x : Mirror) : (s.withMirror x).linkLine = s.linkLine := rfl
@[simp] theorem State.withMirror_svcLine (x : Mirror) : (s.withMirror x).svcLine = s.svcLine := rfl
@[simp] theorem State.withMirror_exceptions (x : Mirror) : (s.withMirror x).exceptions = s.exceptions := rfl
@[simp] theorem State.withMirror_alerts (x : Mirror) : (s.withMirror x).alerts = s.alerts := rfl
@[simp] theorem State.withMirror_port (x : Mirror) : (s.withMirror x).port = s.port := rfl

/-! ### `withLink` -/

@[simp] theorem State.withLink_pending (x : Link) : (s.withLink x).pending = s.pending := rfl
@[simp] theorem State.withLink_phase (x : Link) : (s.withLink x).phase = s.phase := rfl
@[simp] theorem State.withLink_role (x : Link) : (s.withLink x).role = s.role := rfl
@[simp] theorem State.withLink_holdIn (x : Link) : (s.withLink x).holdIn = s.holdIn := rfl
@[simp] theorem State.withLink_regions (x : Link) : (s.withLink x).regions = s.regions := rfl
@[simp] theorem State.withLink_params (x : Link) : (s.withLink x).params = s.params := rfl
@[simp] theorem State.withLink_counters (x : Link) : (s.withLink x).counters = s.counters := rfl
@[simp] theorem State.withLink_path (x : Link) : (s.withLink x).path = s.path := rfl
@[simp] theorem State.withLink_journal (x : Link) : (s.withLink x).journal = s.journal := rfl
@[simp] theorem State.withLink_held (x : Link) : (s.withLink x).held = s.held := rfl
@[simp] theorem State.withLink_mirror (x : Link) : (s.withLink x).mirror = s.mirror := rfl
@[simp] theorem State.withLink_link (x : Link) : (s.withLink x).link = x := rfl
@[simp] theorem State.withLink_replica (x : Link) : (s.withLink x).replica = s.replica := rfl
@[simp] theorem State.withLink_linkLine (x : Link) : (s.withLink x).linkLine = s.linkLine := rfl
@[simp] theorem State.withLink_svcLine (x : Link) : (s.withLink x).svcLine = s.svcLine := rfl
@[simp] theorem State.withLink_exceptions (x : Link) : (s.withLink x).exceptions = s.exceptions := rfl
@[simp] theorem State.withLink_alerts (x : Link) : (s.withLink x).alerts = s.alerts := rfl
@[simp] theorem State.withLink_port (x : Link) : (s.withLink x).port = s.port := rfl

/-! ### `withReplica` -/

@[simp] theorem State.withReplica_pending (x : Replica) : (s.withReplica x).pending = s.pending := rfl
@[simp] theorem State.withReplica_phase (x : Replica) : (s.withReplica x).phase = s.phase := rfl
@[simp] theorem State.withReplica_role (x : Replica) : (s.withReplica x).role = s.role := rfl
@[simp] theorem State.withReplica_holdIn (x : Replica) : (s.withReplica x).holdIn = s.holdIn := rfl
@[simp] theorem State.withReplica_regions (x : Replica) : (s.withReplica x).regions = s.regions := rfl
@[simp] theorem State.withReplica_params (x : Replica) : (s.withReplica x).params = s.params := rfl
@[simp] theorem State.withReplica_counters (x : Replica) : (s.withReplica x).counters = s.counters := rfl
@[simp] theorem State.withReplica_path (x : Replica) : (s.withReplica x).path = s.path := rfl
@[simp] theorem State.withReplica_journal (x : Replica) : (s.withReplica x).journal = s.journal := rfl
@[simp] theorem State.withReplica_held (x : Replica) : (s.withReplica x).held = s.held := rfl
@[simp] theorem State.withReplica_mirror (x : Replica) : (s.withReplica x).mirror = s.mirror := rfl
@[simp] theorem State.withReplica_link (x : Replica) : (s.withReplica x).link = s.link := rfl
@[simp] theorem State.withReplica_replica (x : Replica) : (s.withReplica x).replica = x := rfl
@[simp] theorem State.withReplica_linkLine (x : Replica) : (s.withReplica x).linkLine = s.linkLine := rfl
@[simp] theorem State.withReplica_svcLine (x : Replica) : (s.withReplica x).svcLine = s.svcLine := rfl
@[simp] theorem State.withReplica_exceptions (x : Replica) : (s.withReplica x).exceptions = s.exceptions := rfl
@[simp] theorem State.withReplica_alerts (x : Replica) : (s.withReplica x).alerts = s.alerts := rfl
@[simp] theorem State.withReplica_port (x : Replica) : (s.withReplica x).port = s.port := rfl

/-! ### `withLinkLine` -/

@[simp] theorem State.withLinkLine_pending (x : Line) : (s.withLinkLine x).pending = s.pending := rfl
@[simp] theorem State.withLinkLine_phase (x : Line) : (s.withLinkLine x).phase = s.phase := rfl
@[simp] theorem State.withLinkLine_role (x : Line) : (s.withLinkLine x).role = s.role := rfl
@[simp] theorem State.withLinkLine_holdIn (x : Line) : (s.withLinkLine x).holdIn = s.holdIn := rfl
@[simp] theorem State.withLinkLine_regions (x : Line) : (s.withLinkLine x).regions = s.regions := rfl
@[simp] theorem State.withLinkLine_params (x : Line) : (s.withLinkLine x).params = s.params := rfl
@[simp] theorem State.withLinkLine_counters (x : Line) : (s.withLinkLine x).counters = s.counters := rfl
@[simp] theorem State.withLinkLine_path (x : Line) : (s.withLinkLine x).path = s.path := rfl
@[simp] theorem State.withLinkLine_journal (x : Line) : (s.withLinkLine x).journal = s.journal := rfl
@[simp] theorem State.withLinkLine_held (x : Line) : (s.withLinkLine x).held = s.held := rfl
@[simp] theorem State.withLinkLine_mirror (x : Line) : (s.withLinkLine x).mirror = s.mirror := rfl
@[simp] theorem State.withLinkLine_link (x : Line) : (s.withLinkLine x).link = s.link := rfl
@[simp] theorem State.withLinkLine_replica (x : Line) : (s.withLinkLine x).replica = s.replica := rfl
@[simp] theorem State.withLinkLine_linkLine (x : Line) : (s.withLinkLine x).linkLine = x := rfl
@[simp] theorem State.withLinkLine_svcLine (x : Line) : (s.withLinkLine x).svcLine = s.svcLine := rfl
@[simp] theorem State.withLinkLine_exceptions (x : Line) : (s.withLinkLine x).exceptions = s.exceptions := rfl
@[simp] theorem State.withLinkLine_alerts (x : Line) : (s.withLinkLine x).alerts = s.alerts := rfl
@[simp] theorem State.withLinkLine_port (x : Line) : (s.withLinkLine x).port = s.port := rfl

/-! ### `withSvcLine` -/

@[simp] theorem State.withSvcLine_pending (x : Line) : (s.withSvcLine x).pending = s.pending := rfl
@[simp] theorem State.withSvcLine_phase (x : Line) : (s.withSvcLine x).phase = s.phase := rfl
@[simp] theorem State.withSvcLine_role (x : Line) : (s.withSvcLine x).role = s.role := rfl
@[simp] theorem State.withSvcLine_holdIn (x : Line) : (s.withSvcLine x).holdIn = s.holdIn := rfl
@[simp] theorem State.withSvcLine_regions (x : Line) : (s.withSvcLine x).regions = s.regions := rfl
@[simp] theorem State.withSvcLine_params (x : Line) : (s.withSvcLine x).params = s.params := rfl
@[simp] theorem State.withSvcLine_counters (x : Line) : (s.withSvcLine x).counters = s.counters := rfl
@[simp] theorem State.withSvcLine_path (x : Line) : (s.withSvcLine x).path = s.path := rfl
@[simp] theorem State.withSvcLine_journal (x : Line) : (s.withSvcLine x).journal = s.journal := rfl
@[simp] theorem State.withSvcLine_held (x : Line) : (s.withSvcLine x).held = s.held := rfl
@[simp] theorem State.withSvcLine_mirror (x : Line) : (s.withSvcLine x).mirror = s.mirror := rfl
@[simp] theorem State.withSvcLine_link (x : Line) : (s.withSvcLine x).link = s.link := rfl
@[simp] theorem State.withSvcLine_replica (x : Line) : (s.withSvcLine x).replica = s.replica := rfl
@[simp] theorem State.withSvcLine_linkLine (x : Line) : (s.withSvcLine x).linkLine = s.linkLine := rfl
@[simp] theorem State.withSvcLine_svcLine (x : Line) : (s.withSvcLine x).svcLine = x := rfl
@[simp] theorem State.withSvcLine_exceptions (x : Line) : (s.withSvcLine x).exceptions = s.exceptions := rfl
@[simp] theorem State.withSvcLine_alerts (x : Line) : (s.withSvcLine x).alerts = s.alerts := rfl
@[simp] theorem State.withSvcLine_port (x : Line) : (s.withSvcLine x).port = s.port := rfl

/-! ### `withExceptions` -/

@[simp] theorem State.withExceptions_pending (x : ExceptionList) : (s.withExceptions x).pending = s.pending := rfl
@[simp] theorem State.withExceptions_phase (x : ExceptionList) : (s.withExceptions x).phase = s.phase := rfl
@[simp] theorem State.withExceptions_role (x : ExceptionList) : (s.withExceptions x).role = s.role := rfl
@[simp] theorem State.withExceptions_holdIn (x : ExceptionList) : (s.withExceptions x).holdIn = s.holdIn := rfl
@[simp] theorem State.withExceptions_regions (x : ExceptionList) : (s.withExceptions x).regions = s.regions := rfl
@[simp] theorem State.withExceptions_params (x : ExceptionList) : (s.withExceptions x).params = s.params := rfl
@[simp] theorem State.withExceptions_counters (x : ExceptionList) : (s.withExceptions x).counters = s.counters := rfl
@[simp] theorem State.withExceptions_path (x : ExceptionList) : (s.withExceptions x).path = s.path := rfl
@[simp] theorem State.withExceptions_journal (x : ExceptionList) : (s.withExceptions x).journal = s.journal := rfl
@[simp] theorem State.withExceptions_held (x : ExceptionList) : (s.withExceptions x).held = s.held := rfl
@[simp] theorem State.withExceptions_mirror (x : ExceptionList) : (s.withExceptions x).mirror = s.mirror := rfl
@[simp] theorem State.withExceptions_link (x : ExceptionList) : (s.withExceptions x).link = s.link := rfl
@[simp] theorem State.withExceptions_replica (x : ExceptionList) : (s.withExceptions x).replica = s.replica := rfl
@[simp] theorem State.withExceptions_linkLine (x : ExceptionList) : (s.withExceptions x).linkLine = s.linkLine := rfl
@[simp] theorem State.withExceptions_svcLine (x : ExceptionList) : (s.withExceptions x).svcLine = s.svcLine := rfl
@[simp] theorem State.withExceptions_exceptions (x : ExceptionList) : (s.withExceptions x).exceptions = x := rfl
@[simp] theorem State.withExceptions_alerts (x : ExceptionList) : (s.withExceptions x).alerts = s.alerts := rfl
@[simp] theorem State.withExceptions_port (x : ExceptionList) : (s.withExceptions x).port = s.port := rfl

/-! ### `withAlerts` -/

@[simp] theorem State.withAlerts_pending (x : Alerts) : (s.withAlerts x).pending = s.pending := rfl
@[simp] theorem State.withAlerts_phase (x : Alerts) : (s.withAlerts x).phase = s.phase := rfl
@[simp] theorem State.withAlerts_role (x : Alerts) : (s.withAlerts x).role = s.role := rfl
@[simp] theorem State.withAlerts_holdIn (x : Alerts) : (s.withAlerts x).holdIn = s.holdIn := rfl
@[simp] theorem State.withAlerts_regions (x : Alerts) : (s.withAlerts x).regions = s.regions := rfl
@[simp] theorem State.withAlerts_params (x : Alerts) : (s.withAlerts x).params = s.params := rfl
@[simp] theorem State.withAlerts_counters (x : Alerts) : (s.withAlerts x).counters = s.counters := rfl
@[simp] theorem State.withAlerts_path (x : Alerts) : (s.withAlerts x).path = s.path := rfl
@[simp] theorem State.withAlerts_journal (x : Alerts) : (s.withAlerts x).journal = s.journal := rfl
@[simp] theorem State.withAlerts_held (x : Alerts) : (s.withAlerts x).held = s.held := rfl
@[simp] theorem State.withAlerts_mirror (x : Alerts) : (s.withAlerts x).mirror = s.mirror := rfl
@[simp] theorem State.withAlerts_link (x : Alerts) : (s.withAlerts x).link = s.link := rfl
@[simp] theorem State.withAlerts_replica (x : Alerts) : (s.withAlerts x).replica = s.replica := rfl
@[simp] theorem State.withAlerts_linkLine (x : Alerts) : (s.withAlerts x).linkLine = s.linkLine := rfl
@[simp] theorem State.withAlerts_svcLine (x : Alerts) : (s.withAlerts x).svcLine = s.svcLine := rfl
@[simp] theorem State.withAlerts_exceptions (x : Alerts) : (s.withAlerts x).exceptions = s.exceptions := rfl
@[simp] theorem State.withAlerts_alerts (x : Alerts) : (s.withAlerts x).alerts = x := rfl
@[simp] theorem State.withAlerts_port (x : Alerts) : (s.withAlerts x).port = s.port := rfl

/-! ### `withPort` -/

@[simp] theorem State.withPort_pending (x : Port) : (s.withPort x).pending = s.pending := rfl
@[simp] theorem State.withPort_phase (x : Port) : (s.withPort x).phase = s.phase := rfl
@[simp] theorem State.withPort_role (x : Port) : (s.withPort x).role = s.role := rfl
@[simp] theorem State.withPort_holdIn (x : Port) : (s.withPort x).holdIn = s.holdIn := rfl
@[simp] theorem State.withPort_regions (x : Port) : (s.withPort x).regions = s.regions := rfl
@[simp] theorem State.withPort_params (x : Port) : (s.withPort x).params = s.params := rfl
@[simp] theorem State.withPort_counters (x : Port) : (s.withPort x).counters = s.counters := rfl
@[simp] theorem State.withPort_path (x : Port) : (s.withPort x).path = s.path := rfl
@[simp] theorem State.withPort_journal (x : Port) : (s.withPort x).journal = s.journal := rfl
@[simp] theorem State.withPort_held (x : Port) : (s.withPort x).held = s.held := rfl
@[simp] theorem State.withPort_mirror (x : Port) : (s.withPort x).mirror = s.mirror := rfl
@[simp] theorem State.withPort_link (x : Port) : (s.withPort x).link = s.link := rfl
@[simp] theorem State.withPort_replica (x : Port) : (s.withPort x).replica = s.replica := rfl
@[simp] theorem State.withPort_linkLine (x : Port) : (s.withPort x).linkLine = s.linkLine := rfl
@[simp] theorem State.withPort_svcLine (x : Port) : (s.withPort x).svcLine = s.svcLine := rfl
@[simp] theorem State.withPort_exceptions (x : Port) : (s.withPort x).exceptions = s.exceptions := rfl
@[simp] theorem State.withPort_alerts (x : Port) : (s.withPort x).alerts = s.alerts := rfl
@[simp] theorem State.withPort_port (x : Port) : (s.withPort x).port = x := rfl

end Sys2Proof.Machine
end

