-- ==== Sys2Proof/Laws/Ops.lean ====
section
/-! SUPPORT. One frame lemma per shared operation: all that it can change. Each says that the result is the old state but
for the blocks it names, so a proof cites it in place of unfolding the operation. -/
namespace Sys2Proof.Machine

/-! ### Flags, counters, exceptions and responses -/

/-- Setting an alert cause changes the pending set alone (R182). -/
theorem setAlert_frame (c : AlertCause) (s : State) :
    setAlert c s = { s with alerts := { s.alerts with pending := s.alerts.pending ||| causeBit c } } := rfl

/-- Raising a counter changes that counter alone (R198). -/
theorem bumpBy_frame (k : Nat) (c : Counter) (s : State) :
    bumpBy k c s =
      { s with counters := s.counters.set (counterNumber c) (addSat 4294967295 (s.counters[counterNumber c]) k) } := rfl

/-- A discard raises its cause's counter by one and changes nothing else (R111). -/
theorem discard_frame (c : DiscardCause) (s : State) :
    discard c s =
      { s with counters := s.counters.set (counterNumber (.discarded c))
                (addSat 4294967295 (s.counters[counterNumber (.discarded c)]) 1) } := rfl

/-- A response that joins the response list changes that list alone (R189). -/
theorem pushResponse_frame (r : SvcResponse) (s : State) :
    pushResponse r s = { s with port := { s.port with responses := s.port.responses ++ [r] } } := rfl

/-- A response changes the response list alone (R186, R189). -/
theorem respond_frame (code : Nat) (st : Status) (body : List Byte) (s : State) :
    respond code st body s = { s with port := { s.port with responses := s.port.responses ++
      [{ code := BitVec.ofNat 8 (code + 128), status := st, body := body, divisorDue := false }] } } := rfl

/-- A deferred response joins the list and frees the slot (R191, R203). -/
theorem finishSlot_frame (code : Nat) (st : Status) (body : List Byte) (s : State) :
    finishSlot code st body s = { s with port := { slot := none, responses := s.port.responses ++
      [{ code := BitVec.ofNat 8 (code + 128), status := st, body := body, divisorDue := false }] } } := rfl

/-- A new record, or an overflow, changes the exception list and the alert unit alone (R176). -/
theorem addRecord_frame (r : ExceptionRecord) (s : State) :
    addRecord r s = { s with exceptions := (addRecord r s).exceptions, alerts := (addRecord r s).alerts } := by
  unfold addRecord
  split <;> rfl

/-- A report changes the exception list and the alert unit alone (R176). -/
theorem report_frame (k : ExceptionKind) (src : Option Byte) (a : LineAddr) (i : Option (Fin 32)) (s : State) :
    report k src a i s =
      { s with exceptions := (report k src a i s).exceptions, alerts := (report k src a i s).alerts } := by
  simp only [report]
  split
  · rfl
  · split
    · split
      · rfl
      · exact addRecord_frame _ _
    · exact addRecord_frame _ _

/-- A report does not read the memory path: it commutes with a change of it (R176). -/
theorem report_withPath (k : ExceptionKind) (src : Option Byte) (a : LineAddr) (i : Option (Fin 32)) (s : State)
    (p : Path) : report k src a i (s.withPath p) = (report k src a i s).withPath p := by
  have hadd : ∀ r, addRecord r (s.withPath p) = (addRecord r s).withPath p := by
    intro r
    simp only [addRecord, State.withPath_exceptions]
    by_cases h : s.exceptions.records.length < Config.exceptionPlaces
    · simp only [h, if_true]; rfl
    · simp only [h, if_false]; rfl
  simp only [report, State.withPath_exceptions, hadd]
  by_cases h : s.exceptions.overflow = true
  · simp only [h, if_true]; rfl
  · simp only [h]
    cases s.exceptions.records.getLast? with
    | none => rfl
    | some q =>
      by_cases hq : sameException q { kind := k, source := src, addr := a, region := i, count := 1 } = true
      · simp only [hq, if_true]; rfl
      · simp only [hq]; rfl

/-! ### The memory path -/

/-- A change of a tracking entry in use leaves the queues and the internal source as they are. -/
theorem Path.modifyEntry_frame (t : Fin 64) (f : TrackEntry → TrackEntry) (p : Path) :
    p.modifyEntry t f = { p with table := (p.modifyEntry t f).table } := by
  unfold Path.modifyEntry
  split <;> rfl

/-- A decided response changes its entry and joins the answer queue at its new end (R102). -/
theorem Path.answer_frame (t : Fin 64) (a : HostAnswer) (p : Path) :
    p.answer t a = { p with
      table := (p.modifyEntry t (fun e => { e with state := .answering, response := some a })).table,
      answerQueue := p.answerQueue ++ [t] } := by
  unfold Path.answer Path.modifyEntry
  split <;> rfl

/-- Requests handed to the internal source change the tags and the source's list alone (R94). -/
theorem Path.handOver_frame (rs : List OwnRequest) (p : Path) :
    p.handOver rs = { p with own := (p.handOver rs).own, ownQueue := (p.handOver rs).ownQueue } := by
  unfold Path.handOver
  generalize p.freeOwnTags.zip rs = l
  induction l generalizing p with
  | nil => rfl
  | cons x xs ih => simp only [List.foldl_cons]; rw [ih]; rfl

/-! ### The journal and the held completion list -/

/-- A release by policy changes tracking entries and empties the held list (R63, R100). -/
theorem releaseByPolicy_frame (s : State) :
    releaseByPolicy s = { s with path := s.held.foldl releaseOne s.path, held := [] } := rfl

/-- Emptying the journal as a whole changes the path, the held list and the journal (R23, R24). -/
theorem emptyJournal_frame (s : State) :
    emptyJournal s = { s with path := (s.held.foldl releaseOne s.path).dropCaptures, held := [],
                              journal := s.journal.empty } := rfl

/-- A removal leaves the pledges, the reservation and the last assigned sequence as they are (R21). -/
theorem Journal.removeOldest_frame (d : Nat) (j : Journal) :
    j.removeOldest d = { j with entries := j.entries.drop d, sendPoint := j.sendPoint - d } := rfl

/-- Converting one entry changes the mirror block and the counters alone (R23, R46). -/
theorem convertEntry_frame (s : State) (e : JEntry) :
    convertEntry s e = { s with mirror := (convertEntry s e).mirror, counters := (convertEntry s e).counters } := by
  unfold convertEntry
  split <;> rfl

/-- Converting a list of entries changes the mirror block and the counters alone (R23, R46). -/
theorem convertEntries_frame (l : List JEntry) (s : State) :
    l.foldl convertEntry s =
      { s with mirror := (l.foldl convertEntry s).mirror, counters := (l.foldl convertEntry s).counters } := by
  induction l generalizing s with
  | nil => rfl
  | cons e l ih => simp only [List.foldl_cons]; rw [ih, convertEntry_frame]

/-! ### The mirror state machine and the link unit -/

/-- Conversion on link loss changes the mirror block, the counters, the path, the held list and the journal (R23, R46). -/
theorem convert_frame (s : State) :
    convert s = { s with
      mirror := (convert s).mirror, counters := (convert s).counters,
      path := (s.held.foldl releaseOne s.path).dropCaptures, held := [], journal := s.journal.empty } := by
  unfold convert
  rw [convertEntries_frame]
  rfl

/-- Conversion ends in TRACKING with catch-up-active set and no page COPYING marked by it (R46). -/
theorem convert_state (s : State) :
    (convert s).mirror.state = .tracking ∧ (convert s).mirror.catchupActive = true := ⟨rfl, rfl⟩

/-- Stopping the mirror empties journal, held list and map, and ends in OFF (R24, R34, R48). -/
theorem stopMirror_frame (s : State) :
    stopMirror s = { s with
      path := (s.held.foldl releaseOne s.path).dropCaptures, held := [], journal := s.journal.empty,
      mirror := s.mirror.toOff } := rfl

/-- STOP NOW changes the mirror side and the link unit alone (R48). -/
theorem stopPrimary_frame (s : State) :
    stopPrimary s = { s with
      path := (s.held.foldl releaseOne s.path).dropCaptures, held := [], journal := s.journal.empty,
      mirror := s.mirror.toOff, link := s.link.stop } := by
  simp only [stopPrimary, stopMirror_frame, State.withLink]

/-- The end of a drain sends the deferred response and sets DRAIN_END (R51 to R53). -/
theorem endDrain_frame (st : Status) (body : List Byte) (s : State) :
    endDrain st body s = finishSlot 8 st body (setAlert .drainEnd s) := rfl

/-- Entering LINKING changes the mirror state, the last assigned sequence and the link unit (R43, R114). -/
theorem enterLinking_frame (s : State) :
    enterLinking s = { s with
      mirror := { s.mirror with state := .linking }, journal := { s.journal with lastSeq := none },
      link := (enterLinking s).link } := rfl

/-- A lost attempt changes the link unit and the mirror block alone (R45, R117). -/
theorem attemptLost_frame (c : LossCause) (s : State) :
    attemptLost c s = { s with link := (attemptLost c s).link, mirror := (attemptLost c s).mirror } := rfl

/-- A session lost is told by the mirror state in which it is lost (R46, R47, R52, R129). -/
theorem sessionLost_cases (c : LossCause) (s : State) :
    ((s.mirror.state = .streaming ∨ s.mirror.state = .catchup) ∧
        sessionLost c s = (convert (linkLost c s)).withLink
          { (convert (linkLost c s)).link with
            relinkTimer := startedTimer .relinkInterval (convert (linkLost c s)) })
    ∨ (s.mirror.state = .draining ∧ sessionLost c s = endDrain .linkLost [] (stopMirror (linkLost c s)))
    ∨ ((s.mirror.state = .off ∨ s.mirror.state = .linking ∨ s.mirror.state = .tracking)
        ∧ sessionLost c s = linkLost c s) := by
  unfold sessionLost
  cases h : s.mirror.state <;> simp

/-! ### The replica apply unit -/

/-- Leaving a session changes the unit's fields and the FLUSHED counter alone (R149). -/
theorem leaveSession_frame (bye : Option ByeReason) (dest : ReplicaState) (s : State) :
    leaveSession bye dest s = { s with
      replica := s.replica.left bye dest, counters := (leaveSession bye dest s).counters } := rfl

/-- A session left: the state, no session, an empty queue, HOLD withdrawn, and the marker, the consistency and the
acknowledgement point kept (R149, R161, R166, R167). -/
theorem Replica.left_fields (bye : Option ByeReason) (dest : ReplicaState) (r : Replica) :
    (r.left bye dest).state = dest ∧ (r.left bye dest).session = 0 ∧ (r.left bye dest).queue = []
      ∧ (r.left bye dest).hold = false ∧ (r.left bye dest).marker = r.marker
      ∧ (r.left bye dest).consistency = r.consistency ∧ (r.left bye dest).ackPoint = r.ackPoint
      ∧ (r.left bye dest).applying = r.applying := ⟨rfl, rfl, rfl, rfl, rfl, rfl, rfl, rfl⟩

/-- A HELLO judged changes the replica apply unit alone (R151, R152). -/
theorem judgeHello_frame (n : Byte) (h : HelloBody) (s : State) :
    judgeHello n h s = { s with replica := (judgeHello n h s).replica } := by
  unfold judgeHello
  split
  · rfl
  · split <;> rfl

/-- The acknowledgement after a retirement changes the replica apply unit alone (R164). -/
theorem ackAfterRetire_frame (s : State) :
    ackAfterRetire s = { s with replica := (ackAfterRetire s).replica } := by
  unfold ackAfterRetire
  split
  · rfl
  · split <;> rfl

/-- What a retirement does by kind changes the replica apply unit and the alert unit alone (R163). -/
theorem retireEffect_frame (b : SeqBody) (s : State) :
    retireEffect b s = { s with replica := (retireEffect b s).replica, alerts := (retireEffect b s).alerts } := by
  cases b <;> rfl

/-- A retirement changes the replica apply unit and the alert unit alone (R163, R164). -/
theorem retire_frame (f : QueuedFrame) (rest : List QueuedFrame) (s : State) :
    retire f rest s = { s with replica := (retire f rest s).replica, alerts := (retire f rest s).alerts } := by
  unfold retire
  rw [ackAfterRetire_frame, retireEffect_frame]
  rfl

/-- A gap noted changes the replica apply unit alone (R157, R158, R164). -/
theorem noteGap_frame (s : State) : noteGap s = { s with replica := (noteGap s).replica } := rfl

/-- An apply fault changes the unit, the exception list, the alerts and the counters (R168). -/
theorem applyFault_frame (a : LineAddr) (i : Option (Fin 32)) (s : State) :
    applyFault a i s = { s with
      replica := (applyFault a i s).replica, exceptions := (applyFault a i s).exceptions,
      alerts := (applyFault a i s).alerts, counters := (applyFault a i s).counters } := by
  unfold applyFault
  rw [report_frame]
  simp only []
  split <;> rfl

/-! ### Steps of the running part -/

/-- A step of the running part always answers a next state (R104). -/
theorem live_next (f : State → State) (s : State) :
    live f s = .next (if s.phase = .running then f s else s) := rfl

/-- In the running part the step is the effect itself. -/
theorem live_running {f : State → State} {s : State} (h : s.phase = .running) : live f s = .next (f s) := by
  simp [live, h]

/-! ### Deliveries and service commands -/

/-- A line read back after it was replaced. -/
@[simp] theorem lineOf_withLine (l : LineId) (x : Line) (s : State) : lineOf l (withLine l x s) = x := by
  cases l <;> rfl

/-- A line replaced twice is the last one. -/
@[simp] theorem withLine_withLine (l : LineId) (x y : Line) (s : State) : withLine l y (withLine l x s) = withLine l y s := by
  cases l <;> rfl

/-- A line replaced by itself. -/
@[simp] theorem withLine_lineOf (l : LineId) (s : State) : withLine l (lineOf l s) s = s := by
  cases l <;> rfl

/-- What the owner of a line can do with the oldest delivery: nothing waits, this step does not handle it, or it is handled in
the part without it (R142). -/
theorem takeDelivery_cases (l : LineId) (handle : Delivery → State → Option State) (s : State) :
    ((lineOf l s).delivered = [] ∧ takeDelivery l handle s = s)
    ∨ ∃ d rest, (lineOf l s).delivered = d :: rest ∧
      ((handle d (withLine l { lineOf l s with delivered := rest } s) = none ∧ takeDelivery l handle s = s)
      ∨ ∃ t, handle d (withLine l { lineOf l s with delivered := rest } s) = some t ∧ takeDelivery l handle s = t) := by
  unfold takeDelivery
  cases h : (lineOf l s).delivered with
  | nil => exact .inl ⟨rfl, rfl⟩
  | cons d rest =>
    refine .inr ⟨d, rest, rfl, ?_⟩
    cases hh : handle d (withLine l { lineOf l s with delivered := rest } s) with
    | none => exact .inl ⟨rfl, by simp [hh]⟩
    | some t => exact .inr ⟨t, rfl, by simp [hh]⟩

/-- With a free place a service frame is handled (R189). -/
theorem withPlace_free {act : State → State} {s : State}
    (h : s.port.responses.length + (if s.port.slot.isSome then 1 else 0) < 4) : withPlace act s = act s := by
  have hf : freePlaces s ≠ 0 := by
    simp only [freePlaces, Config.responsePlaces]
    omega
  simp [withPlace, hf]

/-- Without a free place a service frame is dropped and counted (R189). -/
theorem withPlace_full {act : State → State} {s : State}
    (h : ¬ s.port.responses.length + (if s.port.slot.isSome then 1 else 0) < 4) :
    withPlace act s = bump .serviceDropped s := by
  have hf : freePlaces s = 0 := by
    simp only [freePlaces, Config.responsePlaces]
    omega
  simp [withPlace, hf]

/-- With the slot free a command is carried out (R190). -/
theorem throughSlot_free {code : Nat} {act : State → State} {s : State} (h : s.port.slot = none) :
    throughSlot code act s = act s := by
  simp [throughSlot, h]

end Sys2Proof.Machine
end

