-- ==== Sys2Proof/Laws/MemoryPath.lean ====
section
/-! SUPPORT. The take, the arbiter and the forward event, said once: when the head of intake is taken (R90), which request is
granted (R95), and that a capture decision leaves the memory path alone (R30 to R32, R96). -/
namespace Sys2Proof.Machine

/-- Whether a write needs a pledge does not depend on the memory path. -/
@[simp] theorem pledgedTake_withPath (kind : ReqKind) (c : ReqClass) (s : State) (p : Path) :
    pledgedTake kind c (s.withPath p) = pledgedTake kind c s := rfl

/-- Whether the head of intake finds room for its pledge does not depend on the memory path. -/
@[simp] theorem lacksPledgeRoom_withPath (req : HostRequest) (s : State) (p : Path) :
    lacksPledgeRoom req (s.withPath p) = lacksPledgeRoom req s := rfl

/-- A head of intake that needs a pledge and finds no room for it (R59, R90). -/
theorem lacksPledgeRoom_iff (req : HostRequest) (s : State) : lacksPledgeRoom req s = true ↔
    req.source ≠ 255 ∧ pledgedTake req.kind (classify s.regions (pageOf req.addr)) s = true
      ∧ ¬(1 ≤ s.journal.freeEntries ∧ 1 ≤ s.journal.freeSlots ∧ s.held.length + s.journal.pledges < 32) := by
  rw [lacksPledgeRoom, Bool.and_eq_true, Bool.and_eq_true, decide_eq_true_iff, and_assoc, Bool.not_eq_true',
    ← Bool.not_eq_true, Bool.and_eq_true, Journal.roomForData, heldPlaceFree, decide_eq_true_iff, decide_eq_true_iff,
    and_assoc]
  rfl

/-- The head of intake is taken (R90, R91). -/
theorem takeHead_taken {s : State} {req : HostRequest} {rest : List HostRequest} {t : Fin 64}
    (hi : s.path.intake = req :: rest) (hf : s.path.freeEntry = some t) (hr : lacksPledgeRoom req s = false) :
    takeHead s = takeInto t req (s.withPath { s.path with intake := rest }) := by
  simp only [takeHead, hi, hf, hr]
  rfl

/-- The head of intake is not taken, and the requests behind it wait (R59, R90, R92). -/
theorem takeHead_waits {s : State}
    (h : s.path.intake = [] ∨ s.path.freeEntry = none ∨ ∀ req ∈ s.path.intake.head?, lacksPledgeRoom req s = true) :
    takeHead s = s := by
  unfold takeHead
  split
  · rename_i req rest t hi hf
    rw [hi, hf] at h
    rw [h.elim nofun (fun h => h.elim nofun (fun h => h req rfl)), if_pos rfl]
  · rfl

/-- The host queue's oldest request is granted when it waits alone, or when the internal source was granted last (R95). -/
theorem arbitrate_host {s : State} {t : Fin 64} {ts : List (Fin 64)} (hq : s.path.hostQueue = t :: ts)
    (h : s.path.ownQueue = [] ∨ s.path.lastGranted = .internal) : arbitrate s = grantHost t ts s := by
  unfold arbitrate
  rcases h with h | h
  · simp [hq, h]
  · cases ho : s.path.ownQueue <;> simp [hq, h]

/-- The internal source's oldest request is granted when it waits alone, or when the host queue was granted last (R95). -/
theorem arbitrate_own {s : State} {u : Fin 8} {us : List (Fin 8)} (hq : s.path.ownQueue = u :: us)
    (h : s.path.hostQueue = [] ∨ s.path.lastGranted = .host) : arbitrate s = grantOwn u us s := by
  unfold arbitrate
  rcases h with h | h
  · simp [hq, h]
  · cases ho : s.path.hostQueue <;> simp [hq, h]

/-- Giving up a pledge changes the pledge count alone (R6, R58). -/
theorem givePledge_frame (e : TrackEntry) (s : State) :
    givePledge e s = { s with journal := { s.journal with
      pledges := if e.pledge then s.journal.pledges - 1 else s.journal.pledges } } := by
  unfold givePledge
  cases e.pledge <;> rfl

/-- The capture decision leaves the memory path as it is (R30 to R32). -/
theorem captureWrite_path (t : Fin 64) (e : TrackEntry) (s : State) : (captureWrite t e s).state.path = s.path := by
  unfold captureWrite
  split
  · unfold captureMirror
    split <;> try rfl
    all_goals (unfold captureStreaming; split <;> split <;> rfl)
  · unfold captureSignal
    split
    · split <;> try rfl
      all_goals (unfold captureMark; split <;> rfl)
    · rw [report_frame]
  · rfl

/-- The grant of a WRITE: the capture decision, and then the request on the channel (R96). -/
theorem grantHost_write {s : State} {t : Fin 64} {ts : List (Fin 64)} {e : TrackEntry}
    (ht : s.path.table[t] = .used e) (hk : e.req.kind = .write) :
    grantHost t ts s = (captureWrite t e (givePledge e s)).state.withPath (s.path.grantHost t ts e { e with
      req := { e.req with data := [] }, pledge := false, unsettled := false,
      capture := (captureWrite t e (givePledge e s)).capture, rule := some (captureWrite t e (givePledge e s)).rule,
      state := .inMemory }) := by
  have hp : (givePledge e s).path = s.path := by rw [givePledge_frame]
  simp [grantHost, ht, forward, hk, captureWrite_path, hp]

end Sys2Proof.Machine
end

