-- ==== Sys2Proof/Laws/Mirror.lean ====
section
/-! SUPPORT. The dirty page map's operations, said once: what joining, marking and marking many pages do (R29, R33, R36). -/
namespace Sys2Proof.Machine

/-- A page joins the map and no other page joins or leaves it (R36). -/
theorem mem_insertPage (p q : Nat) (l : List Nat) : q ∈ insertPage p l ↔ q = p ∨ q ∈ l := by
  induction l with
  | nil => simp [insertPage]
  | cons a l ih =>
    simp only [insertPage]
    split
    · simp
    · split
      · rename_i h; subst h; simp
      · simp only [List.mem_cons, ih]
        constructor
        · rintro (h | h | h)
          · exact .inr (.inl h)
          · exact .inl h
          · exact .inr (.inr h)
        · rintro (h | h | h)
          · exact .inr (.inl h)
          · exact .inl h
          · exact .inr (.inr h)

/-- The map stays in ascending order when a page joins it (R33). -/
theorem insertPage_pairwise (p : Nat) (l : List Nat) (h : l.Pairwise (· < ·)) : (insertPage p l).Pairwise (· < ·) := by
  induction l with
  | nil => simp [insertPage]
  | cons a l ih =>
    obtain ⟨h1, h2⟩ := List.pairwise_cons.1 h
    simp only [insertPage]
    split
    · rename_i hp
      refine List.pairwise_cons.2 ⟨fun x hx => ?_, h⟩
      rcases List.mem_cons.1 hx with rfl | hx
      · exact hp
      · exact Nat.lt_trans hp (h1 x hx)
    · split
      · exact h
      · refine List.pairwise_cons.2 ⟨fun x hx => ?_, ih h2⟩
        rcases (mem_insertPage p x l).1 hx with rfl | hx
        · omega
        · exact h1 x hx

/-- Setting catch-up-active leaves the marks and the COPYING page as they are (R29). -/
@[simp] theorem Mirror.setCatchup_marks (m : Mirror) : m.setCatchup.marks = m.marks := rfl
/-- Setting catch-up-active leaves the COPYING page as it is (R29). -/
@[simp] theorem Mirror.setCatchup_copying (m : Mirror) : m.setCatchup.copying = m.copying := rfl
/-- Setting catch-up-active sets it (R29). -/
@[simp] theorem Mirror.setCatchup_active (m : Mirror) : m.setCatchup.catchupActive = true := rfl

/-- The marks after a page is marked (R36). -/
@[simp] theorem Mirror.mark_marks (p : Nat) (m : Mirror) : (m.mark p).marks = insertPage p m.marks := by
  unfold Mirror.mark
  dsimp only
  split <;> rfl

/-- Marking sets the recopy flag of the page if it is COPYING (R36). -/
@[simp] theorem Mirror.mark_copying (p : Nat) (m : Mirror) : (m.mark p).copying = (m.touch p).copying := by
  unfold Mirror.mark
  dsimp only
  split <;> rfl

/-- The mirror state after a mark: STREAMING becomes CATCHUP, every other state stays (R29). -/
theorem Mirror.mark_state (p : Nat) (m : Mirror) :
    (m.mark p).state = if m.state = .streaming then .catchup else m.state := by
  unfold Mirror.mark
  dsimp only
  split
  · rename_i h; simp [Mirror.touch, h]
  · rfl

/-- Outside OFF a mark sets catch-up-active (R29). -/
theorem Mirror.mark_active (p : Nat) (m : Mirror) (h : m.state ≠ .off) : (m.mark p).catchupActive = true := by
  unfold Mirror.mark
  simp [h]

/-- The pages marked after marking many (R36, R43, R54). -/
theorem Mirror.mem_markAll (ps : List Nat) (m : Mirror) (q : Nat) :
    q ∈ (m.markAll ps).marks ↔ q ∈ m.marks ∨ q ∈ ps := by
  unfold Mirror.markAll
  induction ps generalizing m with
  | nil => simp
  | cons p ps ih =>
    simp only [List.foldl_cons, ih, Mirror.mark_marks, mem_insertPage, List.mem_cons]
    constructor
    · rintro ((h | h) | h)
      · exact .inr (.inl h)
      · exact .inl h
      · exact .inr (.inr h)
    · rintro (h | h | h)
      · exact .inl (.inr h)
      · exact .inl (.inl h)
      · exact .inr h

/-- Marking many pages keeps the map in ascending order (R33). -/
theorem Mirror.markAll_pairwise (ps : List Nat) (m : Mirror) (h : m.marks.Pairwise (· < ·)) :
    (m.markAll ps).marks.Pairwise (· < ·) := by
  unfold Mirror.markAll
  induction ps generalizing m with
  | nil => exact h
  | cons p ps ih => exact ih (m.mark p) (by rw [Mirror.mark_marks]; exact insertPage_pairwise p _ h)

end Sys2Proof.Machine
end

