-- ==== Sys2Proof/Laws/PerInstr.lean ====
section
/-! SUPPORT. A statement about each command as syntax: no row of spec/opcode_table.json gives bits, so no table word spells
any command (notes/assumptions/5.md). -/
namespace Sys2Proof.Laws

/-- No table word spells the command. -/
def WordFree.Statement (i : Instr) : Prop :=
  ∀ nbits w : Nat, decodeTableWord nbits w ≠ some i

/-- POWER_ON_RESET. -/
theorem WordFree.powerOnReset : WordFree.Statement .powerOnReset := nofun
/-- BOARD_RESET_ASSERT. -/
theorem WordFree.boardResetAssert : WordFree.Statement .boardResetAssert := nofun
/-- BOARD_RESET_RELEASE. -/
theorem WordFree.boardResetRelease (strapHigh : Bool) : WordFree.Statement (.boardResetRelease strapHigh) := nofun
/-- HOST_REQUEST_TAKE. -/
theorem WordFree.hostRequestTake (presented : Option HostRequest) :
    WordFree.Statement (.hostRequestTake presented) := nofun
/-- MEMORY_SIDE_GRANT. -/
theorem WordFree.memorySideGrant : WordFree.Statement .memorySideGrant := nofun
/-- MEMORY_RESPONSE. -/
theorem WordFree.memoryResponse (source : Byte) (tag : Fin 64) (status : MemStatus) (data : List Byte) :
    WordFree.Statement (.memoryResponse source tag status data) :=
  nofun
/-- HOST_RESPONSE_PASS_BACK. -/
theorem WordFree.hostResponsePassBack : WordFree.Statement .hostResponsePassBack := nofun
/-- SWEEP_PICK. -/
theorem WordFree.sweepPick : WordFree.Statement .sweepPick := nofun
/-- CHUNK_READ_ISSUE. -/
theorem WordFree.chunkReadIssue : WordFree.Statement .chunkReadIssue := nofun
/-- DONE_ENTRY_APPEND. -/
theorem WordFree.doneEntryAppend : WordFree.Statement .doneEntryAppend := nofun
/-- DRAIN_NORMAL_END. -/
theorem WordFree.drainNormalEnd : WordFree.Statement .drainNormalEnd := nofun
/-- HOLD_ASSERTED. -/
theorem WordFree.holdAsserted : WordFree.Statement .holdAsserted := nofun
/-- HOLD_WITHDRAWN. -/
theorem WordFree.holdWithdrawn : WordFree.Statement .holdWithdrawn := nofun
/-- HELLO_TIMER_EXPIRY. -/
theorem WordFree.helloTimerExpiry : WordFree.Statement .helloTimerExpiry := nofun
/-- ACK_TIMER_EXPIRY. -/
theorem WordFree.ackTimerExpiry : WordFree.Statement .ackTimerExpiry := nofun
/-- HOLD_TIMER_EXPIRY. -/
theorem WordFree.holdTimerExpiry : WordFree.Statement .holdTimerExpiry := nofun
/-- RELINK_TIMER_EXPIRY. -/
theorem WordFree.relinkTimerExpiry : WordFree.Statement .relinkTimerExpiry := nofun
/-- DRAIN_TIMER_EXPIRY. -/
theorem WordFree.drainTimerExpiry : WordFree.Statement .drainTimerExpiry := nofun
/-- CHARACTER_RECEIVED. -/
theorem WordFree.characterReceived (line : LineId) (ch : Character) : WordFree.Statement (.characterReceived line ch) :=
  nofun
/-- FRAME_DISCARDED. -/
theorem WordFree.frameDiscarded (d : Delivery) : WordFree.Statement (.frameDiscarded d) := nofun
/-- HELLO_ROLE_CONFLICT. -/
theorem WordFree.helloRoleConflict (session : Byte) : WordFree.Statement (.helloRoleConflict session) := nofun
/-- WELCOME_TAKEN. -/
theorem WordFree.welcomeTaken (session : Byte) (result : WelcomeResult) : WordFree.Statement (.welcomeTaken session result) :=
  nofun
/-- BYE_TAKEN. -/
theorem WordFree.byeTaken (session : Byte) (reason : ByeReason) : WordFree.Statement (.byeTaken session reason) := nofun
/-- ACK_TAKEN. -/
theorem WordFree.ackTaken (session : Byte) (n : SeqNum) : WordFree.Statement (.ackTaken session n) := nofun
/-- NAK_TAKEN. -/
theorem WordFree.nakTaken (session : Byte) (n : SeqNum) : WordFree.Statement (.nakTaken session n) := nofun
/-- HELLO_TAKEN. -/
theorem WordFree.helloTaken (session : Byte) (hello : HelloBody) : WordFree.Statement (.helloTaken session hello) :=
  nofun
/-- SEQUENCED_FRAME_TAKEN. -/
theorem WordFree.sequencedFrameTaken (session : Byte) (n : SeqNum) (body : SeqBody) : WordFree.Statement (.sequencedFrameTaken session n body) :=
  nofun
/-- REPLICA_BYE_TAKEN. -/
theorem WordFree.replicaByeTaken (session : Byte) (reason : ByeReason) : WordFree.Statement (.replicaByeTaken session reason) :=
  nofun
/-- APPLY_FRAME_START. -/
theorem WordFree.applyFrameStart : WordFree.Statement .applyFrameStart := nofun
/-- WELCOME_ACCEPT_SEND. -/
theorem WordFree.welcomeAcceptSend : WordFree.Statement .welcomeAcceptSend := nofun
/-- LINK_FRAME_TRANSMIT_START. -/
theorem WordFree.linkFrameTransmitStart : WordFree.Statement .linkFrameTransmitStart := nofun
/-- REPLY_FRAME_TRANSMIT_START. -/
theorem WordFree.replyFrameTransmitStart : WordFree.Statement .replyFrameTransmitStart := nofun
/-- RESPONSE_TRANSMIT_START. -/
theorem WordFree.responseTransmitStart : WordFree.Statement .responseTransmitStart := nofun
/-- TRANSMISSION_END. -/
theorem WordFree.transmissionEnd (line : LineId) : WordFree.Statement (.transmissionEnd line) := nofun
/-- DIVISOR_TAKE_EFFECT. -/
theorem WordFree.divisorTakeEffect (line : LineId) (half : Half) : WordFree.Statement (.divisorTakeEffect line half) :=
  nofun
/-- SERVICE_FRAME_REJECTED. -/
theorem WordFree.serviceFrameRejected (d : Delivery) : WordFree.Statement (.serviceFrameRejected d) := nofun
/-- SERVICE_FRAME_DROPPED. -/
theorem WordFree.serviceFrameDropped : WordFree.Statement .serviceFrameDropped := nofun
/-- STATUS. -/
theorem WordFree.status (group : Byte) : WordFree.Statement (.status group) := nofun
/-- READ_PARAM. -/
theorem WordFree.readParam (number : Byte) : WordFree.Statement (.readParam number) := nofun
/-- WRITE_PARAM. -/
theorem WordFree.writeParam (number : Byte) (value : BitVec 16) : WordFree.Statement (.writeParam number value) := nofun
/-- LOAD_REGION. -/
theorem WordFree.loadRegion (index : Byte) (base count : BitVec 32) (kind policy : Byte) : WordFree.Statement (.loadRegion index base count kind policy) :=
  nofun
/-- CLEAR_REGION. -/
theorem WordFree.clearRegion (index : Byte) : WordFree.Statement (.clearRegion index) := nofun
/-- READ_REGION. -/
theorem WordFree.readRegion (index : Byte) : WordFree.Statement (.readRegion index) := nofun
/-- START_FULL. -/
theorem WordFree.startFull : WordFree.Statement .startFull := nofun
/-- START_CLEAN. -/
theorem WordFree.startClean : WordFree.Statement .startClean := nofun
/-- STOP_NOW. -/
theorem WordFree.stopNow : WordFree.Statement .stopNow := nofun
/-- STOP_DRAIN. -/
theorem WordFree.stopDrain : WordFree.Statement .stopDrain := nofun
/-- ABORT. -/
theorem WordFree.abort : WordFree.Statement .abort := nofun
/-- RESYNC. -/
theorem WordFree.resync (scope : ResyncScope) : WordFree.Statement (.resync scope) := nofun
/-- READ_EXCEPTION. -/
theorem WordFree.readException : WordFree.Statement .readException := nofun
/-- CLEAR_OVERFLOW. -/
theorem WordFree.clearOverflow : WordFree.Statement .clearOverflow := nofun
/-- READ_ALERTS. -/
theorem WordFree.readAlerts : WordFree.Statement .readAlerts := nofun
/-- ACK_ALERTS. -/
theorem WordFree.ackAlerts (causes : Byte) : WordFree.Statement (.ackAlerts causes) := nofun
/-- SET_ALERT_MASK. -/
theorem WordFree.setAlertMask (causes : Byte) : WordFree.Statement (.setAlertMask causes) := nofun
/-- READ_MARKER. -/
theorem WordFree.readMarker : WordFree.Statement .readMarker := nofun
/-- READ_COUNTERS. -/
theorem WordFree.readCounters (number : Byte) : WordFree.Statement (.readCounters number) := nofun
/-- CLEAR_COUNTERS. -/
theorem WordFree.clearCounters (number : Byte) : WordFree.Statement (.clearCounters number) := nofun
/-- SET_ROLE. -/
theorem WordFree.setRole (role : Byte) : WordFree.Statement (.setRole role) := nofun
/-- PROMOTE. -/
theorem WordFree.promote (force : Byte) : WordFree.Statement (.promote force) := nofun
/-- SOFT_RESET. -/
theorem WordFree.softReset : WordFree.Statement .softReset := nofun
/-- SOFT_RESET_COMPLETE. -/
theorem WordFree.softResetComplete : WordFree.Statement .softResetComplete := nofun
/-- LINE_SAMPLED_HIGH. -/
theorem WordFree.lineSampledHigh (line : LineId) : WordFree.Statement (.lineSampledHigh line) := nofun
/-- CHARACTER_BOUNDARY. -/
theorem WordFree.characterBoundary : WordFree.Statement .characterBoundary := nofun
/-- POWER_ON_RESET_END. -/
theorem WordFree.powerOnResetEnd (strapHigh : Bool) : WordFree.Statement (.powerOnResetEnd strapHigh) := nofun

end Sys2Proof.Laws
end

