-- ==== Sys2Proof/Laws/Spec.lean ====
section
/-! SUPPORT. Each shared operation in the words of the statements (Sys2Proof/Safety.lean): one equation per operation, which
a proof cites in place of unfolding it. -/
namespace Sys2Proof.Machine

open Sys2Proof.Safety

/-- A counter raised by one (R198). -/
theorem bump_eq (c : Counter) (s : State) : bump c s = countedUp c s := rfl

/-- A discard counts its cause (R111). -/
theorem discard_eq (c : DiscardCause) (s : State) : Machine.discard c s = countedUp (.discarded c) s := rfl

/-- An alert cause set pending (R182). -/
theorem setAlert_eq (c : AlertCause) (s : State) : setAlert c s = alerted c s := rfl

/-- A response to a command (R186, R189). -/
theorem respond_eq (code : Nat) (st : Status) (body : List Byte) (s : State) :
    respond code st body s = answered (BitVec.ofNat 8 (code + 128)) st body s := rfl

/-- An attempt lost (R45, R117). -/
theorem attemptLost_eq (c : LossCause) (s : State) : attemptLost c s = attemptOver c s := rfl

/-- LINKING entered with a new session offered (R113, R114). -/
theorem enterLinking_eq (s : State) : enterLinking s = offered s := rfl

/-- STOP NOW in the primary role (R48). -/
theorem stopPrimary_eq (s : State) : stopPrimary s = stoppedNow s := by
  rw [stopPrimary_frame]
  by_cases h : s.link.state = .up
  · simp [stoppedNow, Link.stop, Link.dropHello, Link.place, h, releasedPath, emptied, Journal.empty, Mirror.toOff,
      Mirror.emptyMap, Mirror.reset]
  · simp [stoppedNow, Link.stop, Link.dropHello, h, releasedPath, emptied, Journal.empty, Mirror.toOff,
      Mirror.emptyMap, Mirror.reset]

/-- The deferred response of STOP DRAIN sent (R51 to R53). -/
theorem endDrain_eq (st : Status) (body : List Byte) (s : State) : endDrain st body s = drainEnded st body s := rfl

/-- A session lost in DRAINING (R52, R129). -/
theorem sessionLost_draining (c : LossCause) (s : State) (h : s.mirror.state = .draining) :
    sessionLost c s = drainLost c s := by
  simp [sessionLost, linkLost, h, endDrain, finishSlot, respond, pushResponse, stopMirror_frame, setAlert, Alerts.set,
    State.withAlerts, State.withPort, State.withLink, drainLost, releasedPath, emptied, Journal.empty, Mirror.toOff,
    Mirror.emptyMap, Mirror.reset, causeBit]

/-- The oldest entries removed on an acknowledgement (R21, R62). -/
theorem removeAcked_eq (d : Nat) (s : State) : removeAcked d s = removedOldest d s := by
  simp only [removeAcked, removedOldest, releaseAcked]
  by_cases h : (s.journal.entries.take d).any JEntry.isDone = true
  all_goals
    simp [h, setAlert, Alerts.set, State.withAlerts, State.withPath, State.withHeld, State.withJournal, State.withLink,
      sentRemain, Journal.removeOldest, Journal.sentCount, writeAnswer, causeBit, startedTimer]
    rfl

/-- A session left by the replica (R149). -/
theorem leaveSession_eq (bye : Option ByeReason) (dest : ReplicaState) (s : State) :
    leaveSession bye dest s = sessionLeft bye dest s := rfl

/-- The acknowledgement after a retirement (R164). -/
theorem ackAfterRetire_eq (s : State) :
    ackAfterRetire s = { s with replica := acknowledged (coalesceLimit s) s.replica } := by
  simp only [ackAfterRetire, acknowledged]
  by_cases h : s.replica.queue = []
  · by_cases h2 : s.replica.nakDue = true
    · simp [h, h2, State.withReplica, Replica.sendNak, nakHanded, joinAck, withAckFrame]
    · simp [h, h2, State.withReplica, Replica.sendAck, ackHanded, joinAck, withAckFrame]
  · have h5 : s.replica.queue.isEmpty = false := by cases hq : s.replica.queue <;> simp_all
    by_cases h3 : coalesceLimit s ≤ s.replica.retired
    · simp [h, h5, h3, State.withReplica, Replica.sendAck, ackHanded, joinAck, withAckFrame]
    · simp [h, h5, h3]

/-! ### Deliveries handled -/

/-- The owner of a line takes the delivery at the head (R142). -/
theorem takeDelivery_handed (l : LineId) (handle : Delivery → State → Option State) (d : Delivery) (s : State) :
    takeDelivery l handle (handed l d s) = (handle d s).getD (handed l d s) := by
  cases l <;> rfl

/-- A frame at the head of the link unit's deliveries is judged and taken (R111, R142). -/
theorem takeFrame_handed {f : LinkFrame} {bs : List Byte} (act : State → State) (s : State)
    (h : parseLink bs = .ok f) : takeFrame f act (handed .link (.frame bs) s) = judged f act s := by
  simp [takeFrame, takeDelivery_handed, linkFrameOf, h]

/-- The part runs, whatever is handed to it. -/
@[simp] theorem handed_phase (l : LineId) (d : Delivery) (s : State) : (handed l d s).phase = s.phase := by
  cases l <;> rfl

/-- A delivery changes no role. -/
@[simp] theorem handed_role (l : LineId) (d : Delivery) (s : State) : (handed l d s).role = s.role := by
  cases l <;> rfl

/-- A command at the head of the service port's deliveries is handled (R142, R187). -/
theorem takeCommand_handed {c : Instr} {d : Delivery} {act : State → State} {s : State} (hp : s.phase = .running)
    (hc : Carries d c) : takeCommand c act (handed .service d s) = .next (act s) := by
  simp [takeCommand, live, hp, takeDelivery_handed, hc]

/-- A command that is taken with the slot free and a free place is carried out (R189, R190). -/
theorem serve_carriedOut {c : Instr} {code : Nat} {d : Delivery} {act : State → State} {s : State}
    (hs : CommandTaken s) (hc : Carries d c) : serve c code act (handed .service d s) = .next (act s) := by
  obtain ⟨hp, hslot, hlen⟩ := hs
  rw [serve, takeCommand_handed hp hc, withPlace_free (by simpa [hslot] using hlen), throughSlot_free hslot]

/-! ### Conversion -/

/-- The marks after conversion: those that stood, and the page of every DATA and PAGE entry (R23, R46). -/
theorem convertEntries_marks (l : List JEntry) (s : State) (p : Nat) :
    p ∈ (l.foldl convertEntry s).mirror.marks ↔ p ∈ s.mirror.marks ∨ ∃ e ∈ l, convertedPage e = some p := by
  induction l generalizing s with
  | nil => simp
  | cons e l ih =>
    have h : p ∈ (convertEntry s e).mirror.marks ↔ p ∈ s.mirror.marks ∨ convertedPage e = some p := by
      unfold convertEntry convertedPage
      cases e.body <;> simp [mem_insertPage, bump, bumpBy_frame, State.withMirror, pageOf, or_comm, eq_comm]
    simp only [List.foldl_cons, ih, h, List.mem_cons, exists_eq_or_imp, or_assoc]

/-- Conversion keeps the map in ascending order (R33). -/
theorem convertEntries_pairwise (l : List JEntry) (s : State) (h : s.mirror.marks.Pairwise (· < ·)) :
    (l.foldl convertEntry s).mirror.marks.Pairwise (· < ·) := by
  induction l generalizing s with
  | nil => exact h
  | cons e l ih =>
    simp only [List.foldl_cons]
    apply ih
    unfold convertEntry
    split <;> first
      | (simp only [State.withMirror, Mirror.mark_marks]; exact insertPage_pairwise _ _ h)
      | simpa [bump, bumpBy_frame, State.withMirror]

/-- With no page COPYING, conversion leaves none COPYING (R36, R46). -/
theorem convertEntries_copying (l : List JEntry) (s : State) (h : s.mirror.copying = none) :
    (l.foldl convertEntry s).mirror.copying = none := by
  induction l generalizing s with
  | nil => exact h
  | cons e l ih =>
    simp only [List.foldl_cons]
    apply ih
    unfold convertEntry
    split <;> simp [State.withMirror, Mirror.touch, h, bump, bumpBy_frame]

/-- Conversion counts every MARK entry as a dropped marker and no other counter (R23, R46). -/
theorem convertEntries_counters (l : List JEntry) (s : State) (h : s.counters[0] ≤ 4294967295) :
    (l.foldl convertEntry s).counters =
      s.counters.set 0 (min 4294967295 (s.counters[0] + l.countP isMarkEntry)) := by
  induction l generalizing s with
  | nil => simp [Nat.min_eq_right h]
  | cons e l ih =>
    simp only [List.foldl_cons]
    rw [ih]
    · unfold convertEntry
      rw [List.countP_cons]
      cases hb : e.body <;>
        simp [isMarkEntry, hb, State.withMirror, bump, bumpBy_frame, counterNumber, addSat]
      congr 1; omega
    · unfold convertEntry
      cases hb : e.body <;> simp [State.withMirror, bump, bumpBy_frame, counterNumber, addSat, h, Nat.min_le_left]

/-- Conversion adds the figures of every DONE entry back to the catch-up totals (R46). -/
theorem convertEntries_totals (l : List JEntry) (s : State) (hc : s.mirror.copied ≤ 4294967295)
    (hk : s.mirror.skipped ≤ 4294967295) :
    (l.foldl convertEntry s).mirror.copied = min 4294967295 (s.mirror.copied + (l.map (fun e => (doneFigures e).1)).sum)
    ∧ (l.foldl convertEntry s).mirror.skipped =
        min 4294967295 (s.mirror.skipped + (l.map (fun e => (doneFigures e).2)).sum) := by
  induction l generalizing s with
  | nil => simp [Nat.min_eq_right hc, Nat.min_eq_right hk]
  | cons e l ih =>
    have h1 : (convertEntry s e).mirror.copied = min 4294967295 (s.mirror.copied + (doneFigures e).1) := by
      unfold convertEntry
      cases hb : e.body <;> simp [doneFigures, hb, State.withMirror, bump, bumpBy_frame, addSat, Mirror.mark,
        Mirror.touch, Mirror.setCatchup] <;> (try split) <;> first | omega | (simp; omega)
    have h2 : (convertEntry s e).mirror.skipped = min 4294967295 (s.mirror.skipped + (doneFigures e).2) := by
      unfold convertEntry
      cases hb : e.body <;> simp [doneFigures, hb, State.withMirror, bump, bumpBy_frame, addSat, Mirror.mark,
        Mirror.touch, Mirror.setCatchup] <;> (try split) <;> first | omega | (simp; omega)
    obtain ⟨i1, i2⟩ := ih (convertEntry s e) (by omega) (by omega)
    simp only [List.foldl_cons, List.map_cons, List.sum_cons, i1, i2, h1, h2]
    omega

end Sys2Proof.Machine
end

