-- ==== Sys2Proof/Tests/Slice0.lean ====
section
/-! SUPPORT. Small tests: an ill-formed term for each check of WellFormed, single steps with results taken from the manual's
worked examples, and a witness for the hypotheses of each statement of Certificates/Slice0/Obligations.lean. -/
namespace Sys2Proof.Tests

open Sys2Proof.Machine Sys2Proof.Safety

-- One test at a time: many kernel evaluations at once need more memory than the build has.
set_option Elab.async false

/-! ### WellFormed: an ill-formed term for each check -/

/-- A line address has its low six bits zero (R86). -/
theorem test_wf_refuses_unaligned_line :
    (Instr.hostRequestTake (some { kind := .read, source := 1, tag := 0, addr := 0x20, be := 0, data := [] })).wf = false := by
  decide

/-- A READ has no byte-enable set (R86). -/
theorem test_wf_refuses_read_with_enables :
    (Instr.hostRequestTake (some { kind := .read, source := 1, tag := 0, addr := 0, be := 1, data := [] })).wf = false := by
  decide

/-- A WRITE enables at least one byte (R86). -/
theorem test_wf_refuses_write_without_enables :
    (Instr.hostRequestTake (some { kind := .write, source := 1, tag := 0, addr := 0, be := 0, data := [] })).wf = false := by
  decide

/-- A WRITE carries one data byte for each enabled byte (R86). -/
theorem test_wf_refuses_write_with_missing_data :
    (Instr.hostRequestTake (some { kind := .write, source := 1, tag := 0, addr := 0, be := 3, data := [7] })).wf = false := by
  decide

/-- Memory answers a line of 64 bytes or none (R87). -/
theorem test_wf_refuses_short_memory_data : (Instr.memoryResponse 1 0 .okay [1]).wf = false := by decide

/-- A frame has the length that its header gives (R107). -/
theorem test_wf_refuses_frame_of_wrong_length : (Instr.frameDiscarded (.frame [8, 1, 0, 0, 0, 0, 0])).wf = false := by
  decide

/-- A header is oversize only above 261 body bytes (R141). -/
theorem test_wf_refuses_header_that_fits : (Instr.frameDiscarded (.oversize [4, 1, 0, 0, 1, 5])).wf = false := by decide

/-- A HELLO's session is not 0 (R111). -/
theorem test_wf_refuses_conflict_for_session_zero : (Instr.helloRoleConflict 0).wf = false := by decide

/-- A HELLO's window is 1 to 128 (R111). -/
theorem test_wf_refuses_hello_window :
    (Instr.helloTaken 1 { digest := 0, flags := 1, window := 129, revision := 1 }).wf = false := by decide

/-- A DATA frame's set is not empty (R111). -/
theorem test_wf_refuses_data_without_enables : (Instr.sequencedFrameTaken 1 0 (.data 0 0 [])).wf = false := by decide

/-- A PAGE frame carries 256 bytes (R111). -/
theorem test_wf_refuses_short_page : (Instr.sequencedFrameTaken 1 0 (.page 0 0 [1])).wf = false := by decide

/-- A service frame has the length that its header gives (R186). -/
theorem test_wf_refuses_service_length : (Instr.serviceFrameRejected (.frame [1, 1, 0])).wf = false := by decide

/-- A service header is oversize only above 40 body bytes (R141). -/
theorem test_wf_refuses_service_header : (Instr.serviceFrameRejected (.oversize [1, 40])).wf = false := by decide

/-- A RESYNC scope byte of 0 to 2 names one of the three scopes (R196). -/
theorem test_wf_refuses_scope : (Instr.resync (.other 2)).wf = false := by decide

/-! ### States for the tests -/

/-- A HELLO that was offered. -/
def hello : HelloBody := { digest := 0, flags := 1, window := 32, revision := 1 }

/-- The delivery that a command handles: a frame of the mirror link, or the service frame that carries the command. -/
def deliveryOf : Instr → Option (LineId × Delivery)
  | .frameDiscarded d => some (.link, d)
  | .helloRoleConflict n => some (.link, .frame (encodeLink { session := n, body := .hello hello }))
  | .welcomeTaken n r => some (.link, .frame (encodeLink { session := n, body := .welcome r }))
  | .byeTaken n r => some (.link, .frame (encodeLink { session := n, body := .bye r }))
  | .ackTaken n q => some (.link, .frame (encodeLink { session := n, body := .ack q }))
  | .nakTaken n q => some (.link, .frame (encodeLink { session := n, body := .nak q }))
  | .helloTaken n h => some (.link, .frame (encodeLink { session := n, body := .hello h }))
  | .sequencedFrameTaken n q b => some (.link, .frame (encodeLink { session := n, body := .seq q b }))
  | .replicaByeTaken n r => some (.link, .frame (encodeLink { session := n, body := .bye r }))
  | .serviceFrameRejected d => some (.service, d)
  | .serviceFrameDropped => some (.service, .frame [1, 1, 0, 0, 0])
  | c => (commandFrame c).map (fun bs => (.service, .frame bs))

/-- The delivery that a command handles has come (R142). -/
def arrived (c : Instr) (s : State) : State :=
  match deliveryOf c with
  | some (l, d) => handed l d s
  | none => s

/-- The state after a command and the delivery that it handles, or the state before them if the command stops. -/
def after (c : Instr) (s : State) : State :=
  match exec c (arrived c s) with
  | .next t => t
  | .fault _ => s
  | .refused _ => s

/-- A running part, all else as at reset. -/
def running (r : Role) : State := { State.reset with phase := .running, role := r }

/-- MIRROR ASYNC pages 100 to 109, MIRROR SYNC_OPEN page 900, MIRROR SYNC_CLOSED page 300, GUARD pages 0 to 15, SIGNAL page
40,000. -/
def table : Vector (Option Region) 32 :=
  ((((State.reset.regions.set 0 (some { base := 100, count := 10, kind := .mirror .async })).set 1
    (some { base := 900, count := 1, kind := .mirror .syncOpen })).set 2
    (some { base := 300, count := 1, kind := .mirror .syncClosed })).set 4
    (some { base := 0, count := 16, kind := .guard })).set 5 (some { base := 40000, count := 1, kind := .signal })

/-- A primary in a mirror state, with its table loaded and its session 9 as the mirror state has it. -/
def primary (m : MirrorState) : State :=
  { running .primary with
    regions := table,
    mirror := { Mirror.reset with
      state := m, catchupActive := m == .catchup || m == .tracking,
      drainTimer := if m = .draining then some 5000 else none },
    link := { Link.reset with
      state := sessionOf m, session := 9, relinkTimer := if m = .tracking then some 1000 else none },
    port := { Port.reset with slot := if m = .draining then some .stopDrain else none } }

/-- A replica in SESSION 3 with its table loaded. -/
def replica : State :=
  { running .replica with
    regions := table, replica := { Replica.reset with state := .session, session := 3, window := 32 } }

/-- A write of four bytes to the first line of a page, from source 3 with tag 9. -/
def write (page : Nat) : HostRequest :=
  { kind := .write, source := 3, tag := 9, addr := BitVec.ofNat 40 (page * 4096), be := 0xF, data := [1, 2, 3, 4] }

/-- A read of the first line of a page, from source 2 with tag 9. -/
def read (page : Nat) : HostRequest :=
  { kind := .read, source := 2, tag := 9, addr := BitVec.ofNat 40 (page * 4096), be := 0, data := [] }

/-- A tracking entry for a request, QUEUED. -/
def entry (req : HostRequest) (c : ReqClass) (r : Role) : TrackEntry :=
  { req := req, cls := some c, role := r, pledge := false, unsettled := false, capture := none, rule := none,
    response := none, state := .queued }

/-- `s` with tracking entry 0 in use and waiting in the host queue. -/
def queued (e : TrackEntry) (s : State) : State :=
  { s with path := { s.path with table := s.path.table.set 0 (.used e), hostQueue := [0] } }

/-- `s` with tracking entry 0 in use and in memory, captured by journal entry 0 under a completion rule. -/
def inMemory (e : TrackEntry) (rule : CompletionRule) (capture : Option Nat) (s : State) : State :=
  { s with path := { s.path with
      table := s.path.table.set 0 (.used { e with state := .inMemory, rule := some rule, capture := capture }) } }

/-- A DATA entry of a page in region 0. -/
def dataEntry (id page : Nat) (st : JState) : JEntry :=
  { id := id, body := .data (BitVec.ofNat 40 (page * 4096)) 0xF [1, 2, 3, 4] 0 false, state := st }

/-- `s` with a journal of entries and a last assigned sequence. -/
def journaled (es : List JEntry) (send : Nat) (last : Option SeqNum) (s : State) : State :=
  { s with journal := { s.journal with entries := es, sendPoint := send, lastSeq := last, nextId := 100 } }

/-- An apply queue of DATA frames with the sequences from `n`, the oldest started or not. -/
def applyQueue (n count : Nat) (started : Bool) : List QueuedFrame :=
  (List.range count).map (fun k =>
    { seq := BitVec.ofNat 16 (n + k), body := .data 0x64000 1 [7], region := some 0, started := started && k == 0 })

/-- An internal tag 0 granted for a use. -/
def granted (use : OwnUse) (s : State) : State :=
  { s with path := { s.path with own := s.path.own.set 0 (.granted
      { use := use, kind := .read, addr := 0x64000, be := 0, data := [] }) } }

/-- The service frame of a command's bytes. -/
def serviceFrame (bs : List Byte) : Delivery := .frame (bs ++ crcBytes bs)

/-- A frame is read back from its bytes as it was sent. -/
def parses (f : LinkFrame) : Bool := linkFrameOf (.frame (encodeLink f)) == some f

/-- The cause under which checks 1 to 4 of R111 refuse a frame's bytes. -/
def refusal (bs : List Byte) : Option DiscardCause :=
  match parseLink bs with
  | .error c => some c
  | .ok _ => none

/-- The delivery of a command's frame. -/
def carried (c : Instr) : Delivery := .frame ((commandFrame c).getD [])

/-! ### Check codes and frames -/

/-- The check value of this CRC-16 over the characters 1 to 9 is 29B1H (R108: generator, all ones, no inversion). -/
theorem test_crc16_check_value : crc16 [0x31, 0x32, 0x33, 0x34, 0x35, 0x36, 0x37, 0x38, 0x39] = 0x29B1#16 := by
  decide +kernel

/-- The check value of this CRC-32 over the characters 1 to 9 is FC891918H (R83: generator, all ones, inverted). -/
theorem test_crc32_check_value : crc32 [0x31, 0x32, 0x33, 0x34, 0x35, 0x36, 0x37, 0x38, 0x39] = 0xFC891918#32 := by
  decide +kernel

/-- A MARK frame's header and body (R107, R109, R110). -/
theorem test_mark_frame_bytes :
    frameHead { session := 9, body := .seq 0x1234 (.mark 0xA0B0C0D0 5) } =
      [5, 9, 0x12, 0x34, 0, 5, 0xA0, 0xB0, 0xC0, 0xD0, 5] := by decide

/-- A BYE with an undefined reason fails the check of its body (R111). -/
theorem test_bye_reason_refused : refusal (checked [3, 9, 0, 0, 0, 1, 5]) = some .body := by decide +kernel

/-- WRITE_PARAM of the link divisor, RESYNC of page 70,000 and LOAD_REGION, read from the bytes of 10.4 and R194 to R197. -/
theorem test_command_frames_are_read :
    serviceCommand (serviceFrame [3, 3, 10, 1, 69]) = some (.writeParam 10 325)
      ∧ serviceCommand (serviceFrame [10, 9, 0, 0, 1, 17, 112, 0, 0, 1, 2]) = some (.resync (.pages 70000 258))
      ∧ serviceCommand (serviceFrame [4, 11, 31, 1, 2, 3, 4, 0, 0, 128, 1, 2, 9])
        = some (.loadRegion 31 0x01020304 0x8001 2 9) := by decide +kernel

/-- The reset values of the parameters by number are those of R194's table. -/
theorem test_param_resets : ∀ p : Param, paramResets[paramNumber p] = paramReset p := by
  intro p
  cases p <;> decide

/-- The digest of a table without MIRROR entries is the CRC-32 of no bytes, which is 0 (R83). -/
theorem test_digest_of_no_regions : regionDigest State.reset.regions = 0 := by decide

/-! ### Resets -/

/-- Power-on reset puts the part under reset with an empty map. -/
theorem test_power_on_reset : after .powerOnReset (primary .catchup) = State.reset := by decide

/-- The end of power-on reset samples the strap: high is REPLICA (R199). -/
theorem test_power_on_reset_end : (after (.powerOnResetEnd true) State.reset).role = .replica := by decide

/-- Board reset keeps the session number and drops the table (R85, R112). -/
theorem test_board_reset_assert :
    (after .boardResetAssert (primary .streaming)).link.session = 9
      ∧ (after .boardResetAssert (primary .streaming)).regions[0] = none := by decide

/-- The release of RST_N lets the part run (R199). -/
theorem test_board_reset_release :
    (after (.boardResetRelease false) (after .boardResetAssert (primary .off))).phase = .running := by decide

/-! ### The memory path (5.8, 3.9) -/

/-- A synchronous write at the head of intake in STREAMING with all 32 places of the held list spoken for. -/
def stalled : State :=
  { primary .streaming with journal := { Journal.reset with pledges := 32 }, path := { Path.reset with intake := [write 900] } }

/-- A PASS read waits behind a stalled synchronous write (3.10, R92). -/
theorem test_host_request_waits :
    (after (.hostRequestTake (some (read 7000))) stalled).path.hostQueue = []
      ∧ (after (.hostRequestTake (some (read 7000))) stalled).path.intake = [write 900, read 7000] := by decide

/-- A synchronous write takes a pledge (3.9). -/
theorem test_host_request_pledge : (after (.hostRequestTake (some (write 900))) (primary .streaming)).journal.pledges = 1 := by decide

/-- With the record at INTERNAL and only the host queue waiting, the host queue is granted and the record is HOST (5.8). -/
theorem test_memory_side_grant :
    (after .memorySideGrant (queued (entry (write 102) (.mirror 0 .async) .primary) (primary .catchup))).path.lastGranted
      = .host := by decide

/-- B's write is captured as a DATA entry with the rule AS_MEMORY (5.8). -/
theorem test_memory_side_grant_captures :
    (after .memorySideGrant (queued (entry (write 102) (.mirror 0 .async) .primary) (primary .catchup))).journal.entries
      = [{ id := 0, body := .data 0x66000 0xF [1, 2, 3, 4] 0 false, state := .awaiting 0 }] := by decide

/-- Memory answers B OKAY: its entry is READY (5.8). -/
theorem test_memory_response_confirms :
    (after (.memoryResponse 3 0 .okay []) (inMemory (entry (write 102) (.mirror 0 .async) .primary) .asMemory (some 0)
      (journaled [dataEntry 0 102 (.awaiting 0)] 0 none (primary .catchup)))).journal.entries
      = [dataEntry 0 102 .ready] := by decide

/-- Memory answers a captured write ERROR: its entry is voided (R14). -/
theorem test_memory_response_voids :
    (after (.memoryResponse 3 0 .error []) (inMemory (entry (write 102) (.mirror 0 .async) .primary) .asMemory (some 0)
      (journaled [dataEntry 0 102 (.awaiting 0)] 0 none (primary .catchup)))).journal.entries = [] := by decide

/-- The response is passed back with the requester's own tag (5.8). -/
theorem test_host_response_pass_back :
    (after .hostResponsePassBack { primary .catchup with path := { Path.reset with
      table := Path.reset.table.set 1 (.used { entry (write 102) (.mirror 0 .async) .primary with
        state := .answering, response := some { status := .okay, data := [] } }),
      answerQueue := [1] } }).path.hostOut = some { source := 3, tag := 9, status := .okay, data := [] } := by decide

/-! ### The sweep (2.11, 11.6) and the drain -/

/-- A primary in CATCHUP with pages marked and a cursor. -/
def sweeping (marks : List Nat) (cursor : Nat) : State :=
  { primary .catchup with mirror := { (primary .catchup).mirror with marks := marks, cursor := cursor } }

/-- With no page at or after the cursor the lowest page is picked and the pass count is 1 (11.6). -/
theorem test_sweep_pick :
    (after .sweepPick (sweeping [104] 105)).mirror.copying = some { page := 104, next := 0, recopy := false }
      ∧ (after .sweepPick (sweeping [104] 105)).mirror.passCount = 1 := by decide

/-- A primary in CATCHUP with page 104 COPYING. -/
def copying (next : Fin 16) (recopy : Bool) : State :=
  { sweeping [104] 0 with mirror := { (sweeping [104] 0).mirror with
      copying := some { page := 104, next := next, recopy := recopy } } }

/-- A chunk read hands over four line reads under the tags 0 to 3 (5.8). -/
theorem test_chunk_read_issue : (after .chunkReadIssue (copying 0 false)).path.ownQueue = [0, 1, 2, 3] := by decide

/-- The chunk read of a copy with three lines answered. -/
def chunkRead (next : Fin 16) (recopy cancelled : Bool) : State :=
  { granted (.sweep 3) (copying next recopy) with
    journal := { Journal.reset with
      reservation := some {
        page := 104, chunk := next, region := 0, cancelled := cancelled,
        answers := [{ line := 0, status := .okay, data := [] }, { line := 1, status := .okay, data := [] },
                    { line := 2, status := .okay, data := [] }] } } }

/-- After chunk 15 with the recopy flag set the page is DIRTY and the cursor stands at the next page (2.11). -/
theorem test_copy_ends_with_recopy :
    (after (.memoryResponse 255 0 .okay []) (chunkRead 15 true false)).mirror.marks = [104]
      ∧ (after (.memoryResponse 255 0 .okay []) (chunkRead 15 true false)).mirror.cursor = 105 := by decide

/-- The catch-up ends with a DONE entry of its totals, and CATCHUP becomes STREAMING (2.11). -/
theorem test_done_entry_append :
    (after .doneEntryAppend { primary .catchup with mirror := { (primary .catchup).mirror with copied := 1 } }).mirror.state
      = .streaming
    ∧ (after .doneEntryAppend { primary .catchup with mirror := { (primary .catchup).mirror with copied := 1 } }
      ).journal.entries = [{ id := 0, body := .done 1 0, state := .ready }] := by decide

/-- A drain that ends normally leaves OFF and answers OK with code 136 (R51, R191). -/
theorem test_drain_normal_end :
    (after .drainNormalEnd (primary .draining)).mirror.state = .off
      ∧ (after .drainNormalEnd (primary .draining)).port.responses
        = [{ code := 136, status := .ok, body := [0, 0], divisorDue := false }] := by decide

/-! ### The link unit (6.8, 1.12, 11.7, 11.8) -/

/-- `s` with another link unit. -/
def linked (f : Link → Link) (s : State) : State := { s with link := f s.link }

/-- HOLD asserted in UP stops the ACK timer and starts the hold timer (6.8). -/
theorem test_hold_asserted :
    (after .holdAsserted (linked (fun l => { l with ackTimer := some 20 }) (primary .streaming))).link.ackTimer = none
      ∧ (after .holdAsserted (primary .streaming)).link.holdTimer = some 500 := by decide

/-- HOLD withdrawn with a SENT entry starts the ACK timer with the full timeout (6.8). -/
theorem test_hold_withdrawn :
    (after .holdWithdrawn { journaled [dataEntry 0 102 (.sent 1)] 1 (some 1) (primary .streaming) with holdIn := true }
      ).link.ackTimer = some 20 := by decide

/-- The HELLO timer expires with one of three HELLOs sent: the HELLO is placed again (6.8). -/
theorem test_hello_timer_expiry :
    (after .helloTimerExpiry (linked (fun l => { l with hello := some hello, helloTimer := some 100, helloSends := 1 })
      (primary .linking))).link.control = [{ session := 9, body := .hello hello }] := by decide

/-- The ACK timer expires: the rewind to the oldest SENT entry, and the retry counter 1 (6.8). -/
theorem test_ack_timer_expiry :
    (after .ackTimerExpiry (linked (fun l => { l with ackTimer := some 20 })
      (journaled [dataEntry 0 102 (.sent 1)] 1 (some 1) (primary .streaming)))).journal.sendPoint = 0 := by decide

/-- The journal of 11.7. -/
def lossJournal : List JEntry :=
  [dataEntry 0 100 (.sent 20), { id := 1, body := .mark 0x9C40000 7 5, state := .sent 21 },
   { id := 2, body := .data 0x384000 1 [7] 1 true, state := .ready },
   { id := 3, body := .data 0x12C000 1 [7] 2 true, state := .awaiting 1 }, dataEntry 4 102 .ready]

/-- The session of 11.7 lost with the retry counter above the limit: the four pages are marked and a marker dropped. -/
theorem test_session_lost :
    (after .ackTimerExpiry (linked (fun l => { l with ackTimer := some 20, retry := 4 })
      (journaled lossJournal 2 (some 21) (primary .streaming)))).mirror.marks = [100, 102, 300, 900]
    ∧ (after .ackTimerExpiry (linked (fun l => { l with ackTimer := some 20, retry := 4 })
      (journaled lossJournal 2 (some 21) (primary .streaming)))).counters[0] = 1 := by decide

/-- The hold timer expires in HELLO_WAIT: TRACKING with HOLD_STUCK (R122). -/
theorem test_hold_timer_expiry :
    (after .holdTimerExpiry (linked (fun l => { l with holdTimer := some 500 }) (primary .linking))).link.cause
      = .holdStuck := by decide

/-- The relink timer expires: session 10 offered in LINKING (11.7). -/
theorem test_relink_timer_expiry :
    (after .relinkTimerExpiry (primary .tracking)).link.session = 10
      ∧ (after .relinkTimerExpiry (primary .tracking)).mirror.state = .linking := by decide

/-- The drain timer expires: the deferred response is TIMEOUT (R53). -/
theorem test_drain_timer_expiry :
    (after .drainTimerExpiry (primary .draining)).port.responses
      = [{ code := 136, status := .timeout, body := [], divisorDue := false }] := by decide

/-- An oversize header is counted under LENGTH, counter 8 (R111, R198). -/
theorem test_frame_discarded :
    (after (.frameDiscarded (.oversize [4, 9, 0, 0, 2, 0])) (primary .streaming)).counters[8] = 1 := by decide

/-- A HELLO is answered with BYE(ROLE_CONFLICT) for its session (R131); WELCOME ACCEPT with catch-up-active set gives CATCHUP,
and LINK_UP pending (6.8); a BYE in UP loses the session with its reason (R128). -/
theorem test_session_frames_at_a_primary :
    (after (.helloRoleConflict 4) (primary .off)).link.control = [{ session := 4, body := .bye .roleConflict }]
      ∧ ((after (.welcomeTaken 9 .accept) { primary .linking with mirror := { (primary .linking).mirror with
        catchupActive := true } }).mirror.state = .catchup
        ∧ (after (.welcomeTaken 9 .accept) (primary .linking)).alerts.pending = 2)
      ∧ (after (.byeTaken 9 .promoted) (primary .streaming)).link.cause = .peerBye .promoted := by decide +kernel

/-- ACK(4) removes b, c and d and leaves e; NAK(1) removes a and rewinds to b with the retry counter 1 (1.12). -/
theorem test_acknowledgements :
    (after (.ackTaken 9 4) (journaled [dataEntry 1 100 (.sent 1), dataEntry 2 101 (.sent 2), dataEntry 3 102 (.sent 3),
        dataEntry 4 103 (.sent 4)] 4 (some 4) (primary .streaming))).journal.entries = [dataEntry 4 103 (.sent 4)]
      ∧ ((after (.nakTaken 9 1) (journaled [dataEntry 0 100 (.sent 0), dataEntry 1 101 (.sent 1), dataEntry 2 102 .ready]
        2 (some 1) (primary .streaming))).journal.sendPoint = 0
        ∧ (after (.nakTaken 9 1) (journaled [dataEntry 0 100 (.sent 0), dataEntry 1 101 (.sent 1), dataEntry 2 102 .ready]
        2 (some 1) (primary .streaming))).link.retry = 1) := by decide +kernel

/-- e receives sequence 4 at its first send (1.12). -/
theorem test_link_frame_transmit_start :
    (after .linkFrameTransmitStart (journaled [dataEntry 3 102 (.sent 3), dataEntry 4 103 .ready] 1 (some 3)
      (primary .streaming))).journal.lastSeq = some 4 := by decide

/-! ### The replica apply unit (8.12, 11.8) -/

/-- `s` with another replica apply unit. -/
def applied (f : Replica → Replica) (s : State) : State := { s with replica := f s.replica }

/-- A HELLO of another revision is refused (R151); frame 11 joins the queue and HOLD is asserted, frame 14 with 13 missing has
NAK(13) handed over at once (8.12); a BYE ends the session in LISTENING (R169). -/
theorem test_frames_at_a_replica :
    (after (.helloTaken 4 { hello with revision := 2 }) (applied (fun r => { r with state := .listening, session := 0 })
        replica)).replica.replies = [{ session := 4, body := .welcome .refuseRevision }]
      ∧ (after (.sequencedFrameTaken 3 11 (.mark 7 5)) (applied (fun r => { r with queue := applyQueue 0 11 true, expected := 11 })
        replica)).replica.hold = true
      ∧ (after (.sequencedFrameTaken 3 14 (.mark 7 5)) (applied (fun r => { r with expected := 13, ackPoint := 13 }) replica)
        ).replica.replies = [{ session := 3, body := .nak 13 }]
      ∧ (after (.replicaByeTaken 3 .stopped) replica).replica.state = .listening := by decide +kernel

/-- A DONE with nothing skipped makes the copy CONSISTENT, and ACK(34) is handed over (11.6). -/
theorem test_apply_frame_start :
    (after .applyFrameStart (applied (fun r => { r with
      queue := [{ seq := 33, body := .done 1 0, region := none, started := false }], expected := 34, ackPoint := 33 })
      replica)).replica.consistency = .consistent
    ∧ (after .applyFrameStart (applied (fun r => { r with
      queue := [{ seq := 33, body := .done 1 0, region := none, started := false }], expected := 34, ackPoint := 33 })
      replica)).replica.replies = [{ session := 3, body := .ack 34 }] := by decide

/-- A replica with `count` frames queued from `n`, the oldest one's write granted and in flight. -/
def applying (n count retired : Nat) : State :=
  applied (fun r => { r with
    queue := applyQueue n count true, expected := BitVec.ofNat 16 (n + count), ackPoint := BitVec.ofNat 16 n,
    retired := retired, hold := 12 ≤ count,
    applying := some { remaining := 1, firstError := none, region := some 0 } }) (granted (.apply 0) replica)

/-- Frame 7 retires as the eighth since an acknowledgement: ACK(8) is handed over (8.12). -/
theorem test_apply_write_retires :
    (after (.memoryResponse 255 0 .okay []) (applying 7 6 7)).replica.replies = [{ session := 3, body := .ack 8 }] := by decide

/-- An apply write answered ERROR is an apply fault: BROKEN, and BYE(APPLY_FAULT) (R168). -/
theorem test_apply_write_faults :
    (after (.memoryResponse 255 0 .error []) (applying 7 6 7)).replica.consistency = .broken
      ∧ (after (.memoryResponse 255 0 .error []) (applying 7 6 7)).replica.replies
        = [{ session := 3, body := .bye .applyFault }] := by decide

/-- The WELCOME ACCEPT of a session with CATCHUP_FOLLOWS makes the copy CATCHING (R152, R167). -/
theorem test_welcome_accept_send :
    (after .welcomeAcceptSend (applied (fun r => { r with welcomePending := true, catchupFollows := true }) replica)
      ).replica.consistency = .catching := by decide

/-- The oldest reply begins transmission (R165). -/
theorem test_reply_frame_transmit_start :
    (after .replyFrameTransmitStart (applied (fun r => { r with replies := [{ session := 3, body := .ack 8 }] }) replica)
      ).replica.replies = [] := by decide

/-! ### The serial lines (7.7) -/

/-- A good character, as a transmitter sends it. -/
def good (b : Byte) (mark : Bool) : Character := sentCharacter mark b

/-- Data 07H holds three highs: marked its parity bit is low, unmarked high; the least significant bit is sent first (R134). -/
theorem test_sent_character :
    Character.bits (sentCharacter true 7) =
        [false, true, true, true, false, false, false, false, false, true, false, true]
      ∧ Character.bits (sentCharacter false 7) =
        [false, true, true, true, false, false, false, false, false, false, true, true] := by decide

/-- A link receiver that collects, or hunts. -/
def collecting (bs : Option (List Byte)) : State :=
  { replica with linkLine := { replica.linkLine with waitHigh := false, collected := bs } }

/-- F1 byte 6 with a parity error: HUNT, the frame abandoned, counter 20 (7.7). -/
theorem test_character_parity_error :
    (after (.characterReceived .link { good 0 false with parity := true }) (collecting (some [4, 3, 0, 0, 0, 14]))
      ).linkLine.collected = none
    ∧ (after (.characterReceived .link { good 0 false with parity := true }) (collecting (some [4, 3, 0, 0, 0, 14]))
      ).counters[20] = 1 := by decide

/-- F3's marked first byte ends F2's wait (7.7). -/
theorem test_character_marked :
    (after (.characterReceived .link (good 5 true)) (collecting (some [5, 3, 0, 0, 0]))).linkLine.collected = some [5] := by decide

/-- A receiver that waits looks for a start bit again once the line is high (R139). -/
theorem test_line_sampled_high : (after (.lineSampledHigh .link) replica).linkLine.waitHigh = false := by decide

/-- A link transmitter in the middle of a frame. -/
def sending (f : LinkFrame) (begun : Nat) (s : State) : State :=
  { s with linkLine := { s.linkLine with tx := some { content := .link f, begun := begun, paused := false } } }

/-- Under HOLD a primary's transmitter pauses at the character boundary (R138). -/
theorem test_character_boundary :
    (after .characterBoundary { sending { session := 9, body := .bye .stopped } 1 (primary .off) with holdIn := true }
      ).linkLine.tx = some { content := .link { session := 9, body := .bye .stopped }, begun := 1, paused := true } := by
  decide

/-- Under HOLD the frame does not end while characters of it have not begun (R121, R138). -/
theorem test_no_end_before_the_last_character :
    (after (.transmissionEnd .link) { sending { session := 9, body := .bye .stopped } 8 (primary .off) with holdIn := true }
      ).linkLine.tx.isSome = true := by decide

/-- The end of a HELLO's transmission starts the HELLO timer (6.8). -/
theorem test_transmission_end :
    (after (.transmissionEnd .link) (sending { session := 9, body := .hello hello } 15 (primary .linking))).link.helloTimer
      = some 100 := by decide

/-- A link divisor that is due takes effect at an idle transmitter (R136); the oldest response begins transmission (R189). -/
theorem test_transmitters_take_their_turn :
    (after (.divisorTakeEffect .link .transmitter) (after (.writeParam 10 99) (primary .off))).linkLine.txDivisor = 99
      ∧ (after .responseTransmitStart (after .readAlerts (primary .off))).port.responses = [] := by decide +kernel

/-! ### The service port (4.6, 9.5, 10.7) -/

/-- The responses of the response list: code, status and body. -/
def replies (s : State) : List (Byte × Status × List Byte) :=
  s.port.responses.map (fun r => (r.code, r.status, r.body))

/-- A list with no free place drops the frame, counter 28 (R189). -/
theorem test_service_frame_dropped :
    (after .serviceFrameDropped { primary .off with port := { Port.reset with
      responses := List.replicate 4 { code := 129, status := .ok, body := [], divisorDue := false } } }).counters[28]
      = 1 := by decide

/-- STATUS of the memory path after reset, the record INTERNAL (R95, R192); READ_PARAM of the service divisor in two bytes (R188,
R194); a window of 129 is out of range, and the window is fixed outside OFF (R194). -/
theorem test_status_and_parameters :
    replies (after (.status 2) (primary .off)) = [(129, .ok, [0, 0, 0, 0, 0, 0, 1, 0])]
      ∧ replies (after (.readParam 11) (primary .off)) = [(130, .ok, [11, 1, 69])]
      ∧ replies (after (.writeParam 0 129) (primary .off)) = [(131, .range, [])]
      ∧ replies (after (.writeParam 0 8) (primary .catchup)) = [(131, .state, [])] := by decide +kernel

/-- The table of 4.6: 32,768 MIRROR pages from 4,096, a SIGNAL page and a GUARD. -/
def table46 (m : MirrorState) : State :=
  { primary m with
    regions := ((State.reset.regions.set 0 (some { base := 4096, count := 32768, kind := .mirror .syncOpen })).set 1
      (some { base := 40000, count := 1, kind := .signal })).set 2 (some { base := 0, count := 16, kind := .guard }) }

/-- The loads of 4.6: OVERLAP, CAPACITY, and the third carried out; an entry that ends above page 2^28 - 1 is out of range;
CLEAR_REGION of a SIGNAL entry in LINKING is refused; READ_REGION of index 32 is out of range (R81). -/
theorem test_region_commands :
    (replies (after (.loadRegion 3 36864 32768 0 0) (table46 .off)) = [(132, .overlap, [])]
        ∧ replies (after (.loadRegion 3 50000 32769 0 0) (table46 .off)) = [(132, .capacity, [])])
      ∧ ((after (.loadRegion 3 50000 32768 0 0) (table46 .off)).regions[3]
        = some { base := 50000, count := 32768, kind := .mirror .async }
        ∧ replies (after (.loadRegion 4 268435450 10 1 0) (table46 .off)) = [(132, .range, [])])
      ∧ replies (after (.clearRegion 1) (table46 .linking)) = [(133, .state, [])]
      ∧ replies (after (.readRegion 32) (table46 .off)) = [(134, .range, [])] := by decide +kernel

/-- START FULL marks the pages of the MIRROR regions in ascending order, START CLEAN marks nothing and offers CLEAN_START (R43,
R110); STOP NOW in UP places BYE(STOPPED) and ends in OFF (R48, R130); STOP DRAIN defers its response (10.7). -/
theorem test_start_and_stop :
    (after .startFull (primary .off)).mirror.marks = [100, 101, 102, 103, 104, 105, 106, 107, 108, 109, 300, 900]
      ∧ ((after .startClean (primary .off)).mirror.marks = []
        ∧ ((after .startClean (primary .off)).link.hello.map HelloBody.flags) = some 2)
      ∧ ((after .stopNow (primary .streaming)).link.control = [{ session := 9, body := .bye .stopped }]
        ∧ (after .stopNow (primary .streaming)).mirror.state = .off)
      ∧ ((after .stopDrain (primary .streaming)).mirror.state = .draining
        ∧ (after .stopDrain (primary .streaming)).port = { slot := some .stopDrain, responses := [] }) := by decide +kernel

/-- While STOP DRAIN holds the slot a frame with a bad CRC is answered FRAME_ERROR with code 255, STATUS is answered BUSY with 8,
and ABORT ends the drain: its own OK, and then ABORTED (10.7). -/
theorem test_slot :
    replies (after (.serviceFrameRejected (.frame [1, 1, 0, 0, 0])) (primary .draining)) = [(255, .frameError, [])]
      ∧ replies (after (.status 0) (primary .draining)) = [(129, .busy, [8])]
      ∧ (replies (after .abort (primary .draining)) = [(137, .ok, []), (136, .aborted, [])]
        ∧ (after .abort (primary .draining)).alerts.pending = 8) := by decide +kernel

/-- In STREAMING a range inside region 0 joins two pages and begins CATCHUP; a range that leaves region 0 is widened to the whole
region (R54). -/
theorem test_resync :
    (replies (after (.resync (.pages 104 2)) (primary .streaming)) = [(138, .ok, [0, 0, 0, 2])]
        ∧ (after (.resync (.pages 104 2)) (primary .streaming)).mirror.state = .catchup)
      ∧ replies (after (.resync (.pages 108 4)) (primary .streaming)) = [(138, .ok, [1, 0, 0, 10])] := by decide +kernel

/-- The exception list of 9.5 near its end: an overflow with lost count 3. -/
def overflowed : State :=
  { primary .off with exceptions := { records := [{ kind := .badSource, source := some 255, addr := 0x40, region := none,
                                                    count := 1 }], overflow := true, lost := 3 } }

/-- READ_EXCEPTION removes the record and an overflow stays; CLEAR_OVERFLOW returns 3 (9.5). -/
theorem test_exception_commands :
    replies (after .readException overflowed) = [(139, .ok, [1, 2, 1, 255, 0, 0, 0, 0, 64, 0, 0, 1, 0, 1])]
      ∧ (replies (after .clearOverflow overflowed) = [(140, .ok, [0, 3])]
        ∧ (after .clearOverflow overflowed).exceptions.overflow = false) := by decide +kernel

/-- Causes EXCEPTION and LIST_OVERFLOW pending and not masked. -/
def alerting : State := { primary .off with alerts := { pending := 0x30, mask := 0xCF } }

/-- READ_ALERTS shows ALERT_N driven low (R184); ACK_ALERTS of both causes leaves nothing pending (9.5); SET_ALERT_MASK answers
the new mask and the pending set (R183). -/
theorem test_alert_commands :
    replies (after .readAlerts alerting) = [(141, .ok, [0x30, 0xCF, 1])]
      ∧ replies (after (.ackAlerts 0x30) alerting) = [(142, .ok, [0])]
      ∧ replies (after (.setAlertMask 0xFF) alerting) = [(143, .ok, [0xFF, 0x30])] := by decide +kernel

/-- READ_MARKER before any marker (R166); READ_COUNTERS and CLEAR_COUNTERS of counter 28 (R198). -/
theorem test_marker_and_counters :
    replies (after .readMarker replica) = [(144, .ok, [0, 0, 0, 0, 0, 0])]
      ∧ (replies (after (.readCounters 28) { primary .off with counters := State.reset.counters.set 28 258 })
        = [(145, .ok, [28, 0, 0, 1, 2])]
        ∧ (after (.clearCounters 28) { primary .off with counters := State.reset.counters.set 28 258 }).counters[28] = 0) := by decide +kernel

/-- SET_ROLE in OFF takes up the replica role (R200); PROMOTE of a copy that is not CONSISTENT is refused, and with force carried
out (R171). -/
theorem test_role_commands :
    ((after (.setRole 1) (primary .off)).role = .replica
        ∧ replies (after (.setRole 1) (primary .catchup)) = [(147, .state, [])])
      ∧ (replies (after (.promote 0) replica) = [(148, .notConsistent, [])]
        ∧ (after (.promote 1) replica).replica.replies = [{ session := 3, body := .bye .promoted }]) := by decide +kernel

/-- SOFT_RESET with no apply write in flight is complete at its take, and waits while one is (R203). -/
theorem test_soft_reset :
    (replies (after .softReset (primary .streaming)) = [(149, .ok, [])]
        ∧ (after .softReset (primary .streaming)).link.state = .idle)
      ∧ ((after .softReset (applying 0 1 0)).port.slot = some .softReset
        ∧ replies (after .softResetComplete { after .softReset (applying 0 1 0) with
        replica := { (after .softReset (applying 0 1 0)).replica with applying := none } }) = [(149, .ok, [])]) := by decide +kernel

/-! ### Exceptions (9.5) -/

/-- The 14th record of 9.5 repeats: its count is 2 and nothing is pending. -/
theorem test_report_coalesces :
    (report .guardRefused (some 3) 0 (some 4) { primary .off with exceptions := { ExceptionList.reset with records :=
      [{ kind := .guardRefused, source := some 3, addr := 0x40, region := some 4, count := 1 }] } }).exceptions.records
      = [{ kind := .guardRefused, source := some 3, addr := 0x40, region := some 4, count := 2 }] := by decide

/-- A new kind makes a record and sets EXCEPTION pending (9.5). -/
theorem test_report_new_record : (report .badSource (some 255) 0 none (primary .off)).alerts.pending = 0x10 := by decide

/-! ### Steps and words -/

/-- No word spells a command, so the state is as it was (the table gives no bits). -/
theorem test_words_spell_nothing : decodeTableWord 32 0 = none ∧ (primary .off).withFetchWord 32 0 = primary .off := by
  decide

/-- A step takes the command at the front of the queue. -/
theorem test_step :
    step { primary .off with pending := [.softResetComplete, .readAlerts] }
      = exec .softResetComplete { primary .off with pending := [.readAlerts] } := rfl

/-! ### Witnesses: each statement's hypotheses are met, clause by clause -/

theorem wit_StepRunsTheFrontCommand :
    ({ primary .off with pending := [.readAlerts] } : State).pending = [.readAlerts] ∧ (primary .off).pending = [] := by decide

theorem wit_PowerOnResetAndTheEndsOfReset :
    State.reset.phase = .powerOn ∧ (after .boardResetAssert (primary .streaming)).phase = .boardReset := by decide

/-- Tracking entry 0 in use in a state, entry 1 free, entry 2 stale. -/
def tracked (st : EntryState) : State :=
  { primary .streaming with path := { Path.reset with table := (Path.reset.table.set 0 (.used {
      entry (read 7000) .pass .primary with state := st })).set 2 (.stale 7 true) } }

theorem wit_BoardResetClearsAndKeeps :
    (tracked .inMemory).phase = .running
      ∧ (tracked .inMemory).path.table[0] = .used { entry (read 7000) .pass .primary with state := .inMemory }
      ∧ (tracked .kept).path.table[0] = .used { entry (read 7000) .pass .primary with state := .kept }
      ∧ (tracked .queued).path.table[0] = .used (entry (read 7000) .pass .primary)
      ∧ (tracked .kept).path.table[1] = .free ∧ (tracked .kept).path.table[2] = .stale 7 true := by decide

/-- A primary with a number of pledges. -/
def pledged (n : Nat) (m : MirrorState) : State :=
  { primary m with journal := { Journal.reset with pledges := n } }

/-- A primary whose tracking table has no free entry. -/
def tableFull : State :=
  { primary .off with path := { Path.reset with table := Vector.replicate 64 (.stale 1 false) } }

theorem wit_HostRequestIsTakenAndQueued :
    (primary .off).path.freeEntry = some 0 ∧ (read 7000).source ≠ 255
      ∧ (primary .off).path.intake ++ [read 7000] = [read 7000] ∧ (primary .off).phase = .running
      ∧ refusedAtTake .read (classify table 7000) .primary = false
      ∧ pledgedTake .read (classify table 7000) (primary .off) = false
      ∧ pledgedTake .write (classify table 900) (pledged 31 .streaming) = true
      ∧ refusedAtTake .write (classify table 900) .primary = false
      ∧ (pledged 31 .streaming).path.freeEntry = some 0
      ∧ 1 ≤ (pledged 31 .streaming).journal.freeEntries ∧ 1 ≤ (pledged 31 .streaming).journal.freeSlots
      ∧ (pledged 31 .streaming).held.length + (pledged 31 .streaming).journal.pledges < 32
      ∧ tableFull.path.freeEntry = none
      ∧ stalled.path.intake ++ [read 7000] = [write 900, read 7000]
      ∧ pledgedTake .write (classify stalled.regions 900) stalled = true
      ∧ ¬(stalled.held.length + stalled.journal.pledges < 32) ∧ State.reset.phase ≠ .running := by decide

theorem wit_HostRequestIsTakenAndQueued_classes :
    (∀ i : Fin 32, ∀ r ∈ table[i], r.covers 7000 = false)
      ∧ table[2] = some { base := 300, count := 1, kind := .mirror .syncClosed }
      ∧ (∀ j : Fin 32, j ≠ 2 → ∀ q ∈ table[j], q.covers 300 = false)
      ∧ table[0] = some { base := 100, count := 10, kind := .mirror .async }
      ∧ (∀ j : Fin 32, j ≠ 0 → ∀ q ∈ table[j], q.covers 109 = false) ∧ (109 : Nat) < 100 + 10 := by decide

theorem wit_RefusedRequestIsAnsweredAtItsTake :
    regionAt (primary .off).regions 15 = some (4, { base := 0, count := 16, kind := .guard })
      ∧ (primary .off).path.intake ++ [write 15] = [write 15] ∧ (write 15).source ≠ 255
      ∧ regionAt replica.regions 109 = some (0, { base := 100, count := 10, kind := .mirror .async })
      ∧ replica.path.intake ++ [write 109] = [write 109]
      ∧ replica.role = .replica ∧ replica.path.freeEntry = some 0 ∧ ({ read 0 with source := 255 } : HostRequest).source = 255 := by
  decide

/-- A chunk read's requests wait in the internal source. -/
def issued : State := after .chunkReadIssue (copying 0 false)

theorem wit_MemorySideIsGrantedInTurn :
    (queued (entry (read 7000) .pass .primary) issued).path.hostQueue = [0]
      ∧ (queued (entry (read 7000) .pass .primary) issued).path.lastGranted = .internal
      ∧ (queued (entry (read 7000) .pass .primary) issued).path.table[0] = .used (entry (read 7000) .pass .primary)
      ∧ GrantsWrite (queued (entry (write 102) (.mirror 0 .async) .primary) issued) 0 []
        (entry (write 102) (.mirror 0 .async) .primary)
      ∧ issued.path.ownQueue = [0, 1, 2, 3] ∧ issued.path.hostQueue = []
      ∧ issued.path.own[0] = .waiting { use := .sweep 0, kind := .read, addr := 0x68000, be := 0, data := [] }
      ∧ (primary .off).path.hostQueue = [] ∧ (primary .off).path.ownQueue = [] := by decide

/-- A write waiting for its grant in a mirror state, with a number of pledges held by others or by it. -/
def granting (page : Nat) (c : ReqClass) (mine : Bool) (n : Nat) (m : MirrorState) : State :=
  queued { entry (write page) c .primary with pledge := mine } (pledged n m)

theorem wit_AsyncWriteIsCaptured :
    (∀ m ∈ [MirrorState.streaming, .catchup, .linking, .tracking, .off, .draining],
      GrantsWrite (granting 102 (.mirror 0 .async) false 511 m) 0 [] (entry (write 102) (.mirror 0 .async) .primary)
        ∧ (granting 102 (.mirror 0 .async) false 511 m).mirror.state = m)
    ∧ 1 ≤ (granting 102 (.mirror 0 .async) false 511 .streaming).journal.freeEntries
    ∧ 1 ≤ (granting 102 (.mirror 0 .async) false 511 .streaming).journal.freeSlots
    ∧ ¬(1 ≤ (granting 102 (.mirror 0 .async) false 512 .streaming).journal.freeEntries) := by decide

theorem wit_SynchronousWriteIsHeldOrMarked :
    (∀ m ∈ [MirrorState.streaming, .catchup, .linking, .tracking, .off, .draining], ∀ mine ∈ [true, false],
      GrantsWrite (granting 300 (.mirror 2 .syncClosed) mine 31 m) 0 []
          { entry (write 300) (.mirror 2 .syncClosed) .primary with pledge := mine }
        ∧ (granting 300 (.mirror 2 .syncClosed) mine 31 m).mirror.state = m)
    ∧ syncPolicy .syncClosed = some .closed ∧ syncPolicy .syncOpen = some .opened
    ∧ (granting 300 (.mirror 2 .syncClosed) false 31 .streaming).held.length
        + (granting 300 (.mirror 2 .syncClosed) false 31 .streaming).journal.pledges < 32
    ∧ 1 ≤ (granting 300 (.mirror 2 .syncClosed) false 31 .streaming).journal.freeSlots
    ∧ ¬((granting 300 (.mirror 2 .syncClosed) false 32 .streaming).held.length
        + (granting 300 (.mirror 2 .syncClosed) false 32 .streaming).journal.pledges < 32)
    ∧ GrantsWrite (granting 7000 .pass false 0 .streaming) 0 [] (entry (write 7000) .pass .primary)
    ∧ GrantsWrite (queued (entry (write 300) (.mirror 2 .syncClosed) .replica) (primary .streaming)) 0 []
        (entry (write 300) (.mirror 2 .syncClosed) .replica) := by decide

theorem wit_SignalWriteIsCaptured :
    (∀ m ∈ [MirrorState.streaming, .catchup, .linking, .tracking, .off, .draining],
      GrantsWrite (granting 40000 (.signal 5) false 511 m) 0 [] (entry (write 40000) (.signal 5) .primary))
    ∧ (∃ k : Fin 16, (write 40000).be = 0xF#64 <<< (4 * k.val))
    ∧ (∀ k : Fin 16, (0x1E : ByteSet) ≠ 0xF#64 <<< (4 * k.val))
    ∧ 1 ≤ (granting 40000 (.signal 5) false 511 .streaming).journal.freeEntries
    ∧ ¬(1 ≤ (granting 40000 (.signal 5) false 512 .streaming).journal.freeEntries) := by decide

/-- A tracking entry in memory under a completion rule. -/
def waiting (req : HostRequest) (rule : CompletionRule) (capture : Option Nat) : TrackEntry :=
  { entry req (.mirror 0 .async) .primary with state := .inMemory, rule := some rule, capture := capture }

theorem wit_MemoryAnswersAHostRequest :
    WaitsInMemory (inMemory (entry (read 7000) (.mirror 0 .async) .primary) .asMemory none (primary .streaming)) 2 0
        (waiting (read 7000) .asMemory none)
      ∧ (∀ r ∈ [CompletionRule.asMemory, .closed, .held], ∀ c ∈ [none, some 0],
        WaitsInMemory (inMemory (entry (write 102) (.mirror 0 .async) .primary) r c (primary .streaming)) 3 0
          (waiting (write 102) r c)) := by decide

theorem wit_ConfirmAndVoidTouchOneEntry :
    ((journaled [dataEntry 0 100 (.sent 0), dataEntry 1 101 (.awaiting 3), dataEntry 2 102 .ready] 1 (some 0)
      (primary .streaming)).journal.entries.map JEntry.id).Nodup
    ∧ (dataEntry 1 101 (.awaiting 3)).state = .awaiting 3 ∧ 1 ≤ [dataEntry 0 100 (.sent 0)].length := by decide

/-- An OKAY answer of a line read. -/
def okay (line : Fin 4) : LineAnswer := { line := line, status := .okay, data := [] }

/-- The last chunk read of a page with the lines 0, 1 and 2 answered with statuses. -/
def chunkReadAt (page : Nat) (statuses : List MemStatus) : State :=
  { chunkRead 15 false false with
    mirror := { (chunkRead 15 false false).mirror with
      marks := [page], copying := some { page := page, next := 15, recopy := false } },
    journal := { Journal.reset with
      reservation := some {
        page := page, chunk := 15, region := 0, cancelled := false,
        answers := statuses.mapIdx (fun k st => { line := Fin.ofNat 4 k, status := st, data := [] }) } } }

theorem wit_ChunkReadIsAnswered :
    OwnInMemory (chunkRead 15 false false) 0 0 { use := .sweep 3, kind := .read, addr := 0x64000, be := 0, data := [] }
      ∧ ((chunkRead 15 false false).journal.reservation.map (fun r => r.answers.length)) = some 3
      ∧ ((chunkRead 14 false true).journal.reservation.map Reservation.cancelled) = some true
      ∧ ((chunkRead 14 false false).journal.reservation.map (fun r => r.cancelled || r.answers.any
          (fun a => a.status == .error))) = some false
      ∧ (chunkRead 14 false false).mirror.copying = some { page := 104, next := 14, recopy := false }
      ∧ ((chunkRead 15 true false).journal.reservation.map Reservation.chunk) = some 15
      ∧ OwnInMemory (chunkReadAt 268435455 [.okay, .okay, .okay]) 0 0
          { use := .sweep 3, kind := .read, addr := 0x64000, be := 0, data := [] }
      ∧ (chunkReadAt 268435455 [.okay, .okay, .okay]).mirror.copying = some { page := 268435455, next := 15, recopy := false }
      ∧ ((chunkReadAt 104 [.okay, .error, .okay]).journal.reservation.map (fun r => r.answers ++ [okay 3]))
        = some ([okay 0] ++ { line := 1, status := .error, data := [] } :: [okay 2, okay 3])
      ∧ cursorAfter 268435455 = 0 ∧ passesAfter 268435455 65535 = 65535 ∧ cursorAfter 104 = 105 := by decide

theorem wit_StaleAndUnmatchedResponsesAreDropped :
    (tracked .queued).path.table[2] = .stale 7 true ∧ (tracked .queued).path.table[1] = .free
      ∧ (tracked .queued).path.table[0] = .used (entry (read 7000) .pass .primary)
      ∧ (tracked .inMemory).path.table[0] = .used { entry (read 7000) .pass .primary with state := .inMemory }
      ∧ (read 7000).source ≠ 7 ∧ (8 : Byte) ≠ 7 ∧ (8 : Byte) ≠ 255 ∧ (tracked .queued).path.own[7] = .free
      ∧ ({ primary .off with path := { Path.reset with own := Path.reset.own.set 7 .stale } } : State).path.own[7] = .stale
      ∧ 8 ≤ (8 : Fin 64).val ∧ (7 : Fin 64).val = (7 : Fin 8).val := by decide

theorem wit_OldestResponseIsPassedBack :
    (after (.hostRequestTake (some (write 0))) (primary .off)).path.answerQueue = [0]
      ∧ (after (.hostRequestTake (some (write 0))) (primary .off)).path.table[0] = .used
        { entry (write 0) (.guard 4) .primary with
          state := .answering, response := some { status := .error, data := [] } } := by decide

theorem wit_SweepPicksTheNextPage :
    (sweeping [104, 106] 104).mirror.sweepRuns = true ∧ (sweeping [104, 106] 104).mirror.copying = none
      ∧ (sweeping [104, 106] 104).mirror.marks.Pairwise (· < ·)
      ∧ (∀ q ∈ (sweeping [104, 106] 104).mirror.marks, 104 ≤ q)
      ∧ (∀ q ∈ (sweeping [104, 106] 107).mirror.marks, q < 107) := by decide

theorem wit_ChunkReadIsIssued :
    (copying 0 false).mirror.sweepRuns = true ∧ mirrorRegionAt (copying 0 false).regions 104 = some 0
      ∧ (copying 0 false).journal.reservation = none ∧ 1 ≤ (copying 0 false).journal.freeEntries
      ∧ 4 + param .catchupReserve (pledged 444 .catchup) ≤ (pledged 444 .catchup).journal.freeSlots
      ∧ 4 ≤ (copying 0 false).path.freeOwnTags.length := by decide

theorem wit_DoneEntryEndsTheCatchUp :
    (primary .catchup).mirror.sweepRuns = true ∧ (primary .catchup).mirror.marks = []
      ∧ (primary .catchup).journal.reservation = none ∧ 1 ≤ (pledged 511 .catchup).journal.freeEntries := by decide

theorem wit_DrainEndsNormally :
    (primary .draining).mirror.state = .draining ∧ (primary .draining).mirror.catchupActive = false
      ∧ (primary .draining).journal.reservation = none ∧ (primary .draining).journal.entries = []
      ∧ (primary .draining).held = [] ∧ (primary .draining).link.state = .up := by decide

theorem wit_HoldMovesTheTimers :
    (primary .streaming).phase = .running ∧ (primary .streaming).role = .primary ∧ (primary .streaming).holdIn = false
      ∧ ({ primary .streaming with holdIn := true } : State).holdIn = true ∧ replica.role = .replica := by decide

/-- A primary in HELLO_WAIT with its HELLO timer running. -/
def offering (sends : Nat) : State :=
  linked (fun l => { l with hello := some hello, helloTimer := some 100, helloSends := sends, holdTimer := some 500 })
    (primary .linking)

theorem wit_LinkTimersExpire :
    (offering 2).link.helloTimer.isSome = true ∧ (offering 2).link.state = .helloWait ∧ (offering 2).link.hello = some hello
      ∧ (offering 2).link.helloSends < param .helloAttempts (offering 2)
      ∧ ¬((offering 3).link.helloSends < param .helloAttempts (offering 3))
      ∧ (linked (fun l => { l with ackTimer := some 20, retry := 3 }) (primary .streaming)).link.retry + 1
        ≤ param .retryLimit (primary .streaming)
      ∧ (offering 2).link.holdTimer.isSome = true
      ∧ (primary .tracking).link.relinkTimer.isSome = true ∧ (primary .tracking).mirror.state = .tracking
      ∧ (primary .off).link.helloTimer = none ∧ (primary .off).link.ackTimer = none ∧ (primary .off).link.holdTimer = none
      ∧ (primary .off).link.relinkTimer = none := by decide

theorem wit_DiscardedFramesAreOnlyCounted :
    (∀ f ∈ [({ session := 9, body := .ack 1 } : LinkFrame), { session := 8, body := .welcome .accept },
        { session := 9, body := .bye .stopped }, { session := 3, body := .nak 1 }, { session := 3, body := .seq 0 (.mark 7 5) },
        { session := 9, body := .welcome .accept }, { session := 3, body := .hello hello }], parses f = true)
    ∧ refusal [1, 2, 3] = some .crc ∧ ([0, 0] : List Byte) ≠ crcBytes [8, 9, 0, 0, 0, 0]
    ∧ (primary .off).link.session = 9 ∧ (primary .off).link.state = .idle ∧ (primary .linking).link.state = .helloWait
    ∧ (primary .streaming).link.state = .up ∧ replica.replica.state = .session ∧ replica.replica.session = 3
    ∧ (running .replica).replica.state = .off ∧ (primary .off).linkLine.delivered = []
    ∧ (applied (fun r => { r with state := .listening }) replica).replica.state = .listening := by decide +kernel

/-- Checks 2 to 4 of R111 refuse at the ends of their ranges. -/
theorem wit_DiscardedFramesAreOnlyCounted_refusals :
    (∀ t ∈ [(0 : Byte), 10], refusal (checked [t, 9, 0, 0, 0, 0]) = some .type)
    ∧ (∀ bs ∈ [[(1 : Byte), 9, 0, 0, 0, 0], [4, 9, 0, 0, 0, 1, 0], [9, 9, 0, 0, 0, 1, 0],
        [4, 9, 0, 0, 0, 14, 0, 0, 0, 0, 0x40, 0, 0, 0, 0, 0, 0, 0, 3, 1]], refusal (checked bs) = some .length)
    ∧ (∀ bs ∈ [[(1 : Byte), 9, 0, 0, 0, 7, 0, 0, 0, 0, 1, 129, 1], [2, 9, 0, 0, 0, 1, 3], [5, 9, 0, 0, 0, 5, 0, 0, 0, 0, 32],
        [4, 9, 0, 0, 0, 14, 0, 0, 0, 0, 0x20, 0, 0, 0, 0, 0, 0, 0, 1, 1]], refusal (checked bs) = some .body)
    ∧ (∀ body ∈ [[(0 : Byte), 0, 0, 0, 16], [16, 0, 0, 0, 0]], (body ++ List.replicate 256 0).length = 261
        ∧ (16 ≤ (body.getD 0 0).toNat ∨ 16 ≤ (body.getD 4 0).toNat)) := by decide +kernel

theorem wit_HelloAtAPrimaryIsRefused :
    (primary .off).phase = .running ∧ (primary .off).role = .primary ∧ parses { session := 1, body := .hello hello } = true
      ∧ (∃ f ∈ (after (.helloRoleConflict 4) (primary .off)).link.control, f.body = .bye .roleConflict) := by decide +kernel

/-- A primary in LINKING with catch-up-active set and the clean start armed. -/
def overtaken : State :=
  { primary .linking with mirror := { (primary .linking).mirror with catchupActive := true, cleanArmed := true } }

theorem wit_AnswerEndsTheAttempt :
    (primary .linking).link.state = .helloWait ∧ (9 : Byte) = (primary .linking).link.session
      ∧ ¬((primary .linking).mirror.catchupActive = true ∧ (primary .linking).mirror.cleanArmed = true)
      ∧ overtaken.mirror.catchupActive = true ∧ overtaken.mirror.cleanArmed = true ∧ overtaken.link.state = .helloWait
      ∧ (∀ r ∈ [WelcomeResult.accept, .refuseRegions, .refuseRevision], parses { session := 9, body := .welcome r } = true)
      ∧ (∀ r ∈ [ByeReason.stopped, .roleConflict], parses { session := 9, body := .bye r } = true) := by decide +kernel

/-- A primary in UP with every timer of the link unit running and the retry counter at its limit. -/
def losing (m : MirrorState) : State :=
  linked (fun l => { l with ackTimer := some 20, holdTimer := some 500, retry := 4 })
    (journaled [dataEntry 0 100 (.sent 20)] 1 (some 20) (primary m))

/-- A primary in CATCHUP again, with the DONE entry of the catch-up before still in its journal. -/
def doneInJournal : State :=
  { journaled [{ id := 0, body := .done 4 2, state := .sent 20 }] 1 (some 20) (sweeping [104] 105) with
    mirror := { (sweeping [104] 105).mirror with copied := 3 } }

theorem wit_SessionLossConvertsOrEndsTheDrain :
    (∀ m ∈ [MirrorState.streaming, .catchup, .draining],
      (losing m).link.state = .up ∧ (losing m).mirror.state = m ∧ (losing m).link.holdTimer.isSome = true
        ∧ (losing m).link.ackTimer.isSome = true ∧ param .retryLimit (losing m) < (losing m).link.retry + 1
        ∧ (losing m).journal.sentCount < ((22 : SeqNum) - (losing m).journal.ackBase).toNat
        ∧ (20 : SeqNum) = (losing m).journal.ackBase)
    ∧ (∀ f ∈ [({ session := 9, body := .bye .stopped } : LinkFrame), { session := 9, body := .ack 22 },
        { session := 9, body := .nak 22 }, { session := 9, body := .nak 20 }], parses f = true) := by decide +kernel

/-- A DONE entry's figures are added back and the cursor is kept (11.7, R46). -/
theorem test_conversion_adds_done_figures_back :
    (after (.byeTaken 9 .stopped) doneInJournal).mirror.copied = 7
      ∧ (after (.byeTaken 9 .stopped) doneInJournal).mirror.skipped = 2
      ∧ (after (.byeTaken 9 .stopped) doneInJournal).mirror.cursor = 105 := by decide +kernel

/-- A primary with two held writes: entry 0 in memory, entry 1 kept. -/
def holding : State :=
  { primary .streaming with
    path := { Path.reset with table := (((Path.reset.table.set 0 (.used (waiting (write 900) .held (some 0)))).set 1
      (.used { waiting (write 300) .held none with state := .kept })).set 2
      (.used { waiting (read 7000) .asMemory none with rule := none })) },
    held := [{ source := 3, tag := 9, track := 0, entry := 0, policy := .opened, memOkay := false },
             { source := 3, tag := 9, track := 1, entry := 1, policy := .closed, memOkay := true }] }

theorem wit_HeldWritesAreReleasedByPolicy :
    PathOk holding ∧ holding.path.table[0] = .used (waiting (write 900) .held (some 0))
      ∧ holding.path.table[2] = .used { waiting (read 7000) .asMemory none with rule := none }
      ∧ (∀ r ∈ holding.held, r.track ≠ 2) := by decide

theorem wit_AcknowledgementRemovesAndRewinds :
    (∀ f ∈ [({ session := 9, body := .ack 20 } : LinkFrame), { session := 9, body := .ack 21 }, { session := 9, body := .nak 20 },
        { session := 9, body := .nak 21 }], parses f = true)
    ∧ TakesAck 9 (losing .streaming) ∧ ((20 : SeqNum) - (losing .streaming).journal.ackBase).toNat = 0
      ∧ ((21 : SeqNum) - (losing .streaming).journal.ackBase).toNat = 1 ∧ 1 ≤ (losing .streaming).journal.sentCount
      ∧ (linked (fun l => { l with retry := 3 }) (losing .streaming)).link.retry + 1 ≤ param .retryLimit (losing .streaming)
      ∧ TakesAck 9 (linked (fun l => { l with retry := 3 }) (losing .streaming))
      ∧ (losing .streaming).journal.entries = [] ++ dataEntry 0 100 (.sent 20) :: []
      ∧ (∀ x ∈ [dataEntry 0 100 .ready], x.state ≠ .sent 20) :=
  ⟨by decide +kernel, by decide⟩

/-- A primary in UP whose send point stands at an entry. -/
def atSendPoint (st : JState) : State := journaled [dataEntry 0 100 st] 0 none (primary .streaming)

/-- A primary in UP with a window of one, one SENT entry and a READY one at the send point. -/
def windowFull : State :=
  { journaled [dataEntry 0 100 (.sent 0), dataEntry 1 101 .ready] 1 (some 0) (primary .streaming) with
    params := State.reset.params.set 0 1 }

theorem wit_TransmitterTakesTheNextFrame :
    (atSendPoint .ready).linkLine.tx = none ∧ (atSendPoint .ready).link.control = [] ∧ (atSendPoint .ready).link.state = .up
      ∧ (∀ st ∈ [JState.ready, .sent 7, .awaiting 3],
        (atSendPoint st).journal.entries[(atSendPoint st).journal.sendPoint]? = some (dataEntry 0 100 st))
      ∧ (atSendPoint .ready).journal.sentCount < param .window (atSendPoint .ready)
      ∧ ({ primary .off with holdIn := true } : State).linkLine.tx = none
      ∧ (primary .off).link.control = [] ∧ (primary .off).link.state ≠ .up
      ∧ (after (.helloRoleConflict 4) (primary .off)).link.control ≠ [] := by decide +kernel

/-- At a full window of one, and at the new end, nothing is there to take. -/
theorem wit_TransmitterTakesTheNextFrame_waits :
    windowFull.phase = .running ∧ windowFull.linkLine.tx = none ∧ windowFull.holdIn = false ∧ windowFull.link.control = []
      ∧ windowFull.link.state = .up
      ∧ windowFull.journal.entries[windowFull.journal.sendPoint]? = some (dataEntry 1 101 .ready)
      ∧ param .window windowFull ≤ windowFull.journal.sentCount
      ∧ (losing .streaming).journal.entries.length ≤ (losing .streaming).journal.sendPoint
      ∧ (losing .streaming).link.control = [] ∧ (losing .streaming).link.state = .up := by decide

/-- A HELLO that agrees with the table. -/
def agreeing : HelloBody := { hello with digest := regionDigest table }

theorem wit_HelloAndByeAtAReplica :
    (∀ f ∈ [({ session := 4, body := .hello hello } : LinkFrame), { session := 255, body := .hello { hello with revision := 2 } },
        { session := 1, body := .hello agreeing }, { session := 3, body := .hello hello }, { session := 3, body := .bye .stopped },
        { session := 4, body := .bye .promoted }], parses f = true)
      ∧ hello.digest ≠ regionDigest table ∧ agreeing.digest = regionDigest replica.regions ∧ agreeing.revision = 1
      ∧ replica.replica.state = .session ∧ (3 : Byte) = replica.replica.session ∧ (4 : Byte) ≠ replica.replica.session
      ∧ (applied (fun r => { r with state := .listening }) replica).replica.state = .listening
      ∧ (running .replica).replica.state = .off := by decide +kernel

/-- A replica that noted a gap, a NAK due or not, with frames queued. -/
def gapNoted (due : Bool) (count : Nat) : State :=
  applied (fun r => { r with nakOutstanding := true, nakDue := due, queue := applyQueue 0 count true,
                             expected := BitVec.ofNat 16 count }) replica

theorem wit_SequencedFrameIsPlaced :
    (∀ f ∈ [({ session := 3, body := .seq 0 (.mark 7 5) } : LinkFrame), { session := 3, body := .seq 32767 (.mark 7 5) },
        { session := 3, body := .seq 32768 (.data 0x64000 1 [7]) }], parses f = true)
    ∧ TakesInSession 3 replica
      ∧ (0 : SeqNum) = replica.replica.expected ∧ framePage (.mark 7 5) = none
      ∧ framePage (.data 0x64000 1 [7]) = some 100 ∧ mirrorRegionAt replica.regions 100 = some 0
      ∧ mirrorRegionAt replica.regions 110 = none
      ∧ (applied (fun r => { r with queue := applyQueue 0 15 false }) replica).replica.queue.length = 15
      ∧ (applied (fun r => { r with queue := applyQueue 0 16 false }) replica).replica.queue.length = 16
      ∧ ((32767 : SeqNum) - replica.replica.expected).toNat = 32767
      ∧ ((32768 : SeqNum) - replica.replica.expected).toNat = 32768
      ∧ replica.replica.nakOutstanding = false ∧ replica.replica.queue = [] := ⟨by decide +kernel, by decide⟩

/-- The ahead clause with NAK-outstanding set: no NAK due, and one due behind waiting frames. -/
theorem wit_SequencedFrameIsPlaced_again :
    TakesInSession 3 (gapNoted false 0) ∧ (gapNoted false 0).replica.nakOutstanding = true
      ∧ (gapNoted false 0).replica.nakDue = false
      ∧ TakesInSession 3 (gapNoted true 2) ∧ (gapNoted true 2).replica.nakDue = true ∧ (gapNoted true 2).replica.queue ≠ []
      ∧ (gapNoted true 2).replica.nakOutstanding = true
      ∧ 1 ≤ ((9 : SeqNum) - (gapNoted true 2).replica.expected).toNat := by decide

/-- A replica with one frame queued and not started. -/
def startable (b : SeqBody) : State :=
  applied (fun r => { r with queue := [{ seq := 0, body := b, region := some 0, started := false }], expected := 1 }) replica

theorem wit_OldestFrameIsStarted :
    (∀ b ∈ [SeqBody.mark 7 5, .done 1 0, .data 0x64000 1 [7], .page 100 15 (List.replicate 256 0)],
      Startable { seq := 0, body := b, region := some 0, started := false } [] (startable b))
    ∧ 4 ≤ (startable (.mark 7 5)).path.freeOwnTags.length := by decide +kernel

theorem wit_ApplyWritesEndInRetirementOrFault :
    OwnInMemory (applying 7 6 7) 0 0 { use := .apply 0, kind := .read, addr := 0x64000, be := 0, data := [] }
      ∧ (applying 7 6 7).replica.applying = some { remaining := 1, firstError := none, region := some 0 }
      ∧ ((applying 7 6 7).replica.queue.head?.map (fun f => (f.started, framePage f.body))) = some (true, some 100)
      ∧ (applying 7 0 7).replica.queue = []
      ∧ (applied (fun r => { r with applying := some { remaining := 4, firstError := some 0x64000, region := some 0 } })
          (applying 7 6 7)).replica.applying = some { remaining := 4, firstError := some 0x64000, region := some 0 } := by decide

theorem wit_RepliesAreSent :
    (applied (fun r => { r with welcomePending := true }) replica).replica.welcomePending = true
      ∧ replica.replica.state = .session ∧ replica.replica.applying = none ∧ replica.linkLine.tx = none
      ∧ (applied (fun r => { r with replies := [{ session := 3, body := .ack 8 }] }) replica).replica.replies
        = [{ session := 3, body := .ack 8 }] := by decide

theorem wit_CharactersMakeFrames :
    (lineOf .link replica).waitHigh = true ∧ (lineOf .link (collecting none)).waitHigh = false
      ∧ goodChar (good 5 true) ∧ goodChar (good 5 false) ∧ Character.parityOk { good 0 false with parity := true } = false
      ∧ frameOpen .link [8, 3, 0, 7, 0] ∧ frameOpen .link ([6, 3, 0, 7, 1, 5] ++ List.replicate 262 0)
      ∧ frameComplete .link [8, 3, 0, 7, 0, 0, 1, 2] ∧ headerOversize .link [8, 3, 0, 7, 1, 6]
      ∧ frameOpen .service [1] ∧ frameComplete .service [1, 1, 0, 1, 2] ∧ headerOversize .service [1, 41] := by decide +kernel

theorem wit_TransmissionPausesAndEnds :
    (∃ t, (sending { session := 9, body := .bye .stopped } 8 (primary .off)).linkLine.tx = some t ∧ t.paused = false
      ∧ t.begun < (txBytes t.content).length)
    ∧ (∀ f ∈ [({ session := 9, body := .bye .stopped } : LinkFrame), { session := 9, body := .seq 7 (.mark 7 5) }],
      isHello f = false ∧ (encodeLink f).length = if isBye f then 9 else 13)
    ∧ (∀ m ∈ [MirrorState.linking, .streaming, .off], ∀ n ∈ [(9 : Byte), 8],
      (sending { session := n, body := .hello hello } 15 (primary m)).linkLine.tx
        = some { content := .link { session := n, body := .hello hello }, begun := 15, paused := false }
      ∧ (encodeLink { session := n, body := .hello hello }).length = 15 ∧ (primary m).link.session = 9)
    ∧ ((primary .linking).link.state, (primary .streaming).link.state, (primary .off).link.state)
      = (.helloWait, .up, .idle)
    ∧ (after .characterBoundary { sending { session := 9, body := .bye .stopped } 1 (primary .off) with holdIn := true }
      ).linkLine.tx = some { content := .link { session := 9, body := .bye .stopped }, begun := 1, paused := true } :=
  ⟨⟨_, rfl, rfl, by decide⟩, by decide⟩

/-- A response's transmission: all its characters begun. -/
theorem wit_TransmissionPausesAndEnds_response :
    ∃ (t : Tx) (r : SvcResponse), (after .responseTransmitStart (after .readAlerts (primary .off))).svcLine.tx = some t
      ∧ t.paused = false ∧ t.content = .response r ∧ (encodeResponse r).length ≤ t.begun :=
  ⟨{ content := .response { code := 141, status := .ok, body := [0, 0xFF, 0], divisorDue := false }, begun := 8, paused := false },
    _, by decide +kernel, rfl, rfl, by decide +kernel⟩

/-- Divisors pending and due on the mirror link. -/
def divisorsDue : State := after (.writeParam 10 99) (primary .off)

theorem wit_ResponsesAndDivisorsTakeTheirTurn :
    (lineOf .link divisorsDue).due = true ∧ (lineOf .link divisorsDue).tx = none
      ∧ (lineOf .link divisorsDue).txPending = some 99 ∧ (lineOf .link divisorsDue).rxPending = some 99
      ∧ (lineOf .link divisorsDue).collected = none ∧ (lineOf .service divisorsDue).due = false
      ∧ (lineOf .link (sending { session := 9, body := .bye .stopped } 1 divisorsDue)).tx ≠ none
      ∧ (lineOf .link (collecting (some [1]))).collected ≠ none
      ∧ divisorsDue.svcLine.tx = none ∧ divisorsDue.port.responses ≠ [] := by decide +kernel

/-- Four responses wait. -/
def listFull : State :=
  { primary .off with port := { Port.reset with
    responses := List.replicate 4 { code := 129, status := .ok, body := [], divisorDue := false } } }

theorem wit_RejectedServiceFramesAreAnswered :
    ¬ResponseFits listFull ∧ listFull.phase = .running ∧ ResponseFits (primary .draining) ∧ ResponseFits (primary .off)
      ∧ ([0, 0] : List Byte) ≠ crcBytes [1, 1, 0] ∧ 21 < (22 : Byte).toNat ∧ commandLengthOk 1 [] = false
      ∧ (primary .off).port.slot = none ∧ 2 ≤ (2 : Byte).toNat := by decide +kernel

/-- Commands of every body layout are carried by their frames, and a frame carries no other command. -/
theorem wit_RejectedServiceFramesAreAnswered_carried :
    (∀ c ∈ [Instr.status 255, .writeParam 10 65535, .loadRegion 31 0x0FFFFFFF 0xFFFFFFFF 2 255, .startClean, .stopDrain, .abort,
        .resync (.pages 0 0xFFFFFFFF), .resync (.region 31), .resync .all, .resync (.other 3), .readAlerts],
      c.wf = true ∧ (commandFrame c).isSome = true ∧ Carries (carried c) c)
    ∧ slottedCode .readMarker = some 16 ∧ ¬Carries (carried .readAlerts) .readMarker
    ∧ (handed .service (carried .readAlerts) (primary .off)).svcLine.delivered.head? = some (carried .readAlerts) := by
  decide +kernel

theorem wit_OccupiedSlotAnswersBusy :
    slottedCode (.status 0) = some 1 ∧ slottedCode .softReset = some 21 ∧ ¬ResponseFits listFull
      ∧ Carries (carried (.status 0)) (.status 0) ∧ Carries (carried .abort) .abort
      ∧ ResponseFits (primary .draining) ∧ (primary .draining).port.slot = some .stopDrain
      ∧ ResponseFits (after .softReset (applying 0 1 0)) ∧ (after .softReset (applying 0 1 0)).port.slot = some .softReset := by
  decide +kernel

theorem wit_ReadingCommandsOnlyAnswer :
    CommandTaken (primary .catchup) ∧ CommandTaken replica ∧ (4 : Byte).toNat < 5 ∧ 5 ≤ (5 : Byte).toNat
      ∧ 12 ≤ (12 : Byte).toNat ∧ (31 : Byte).toNat < 32 ∧ 32 ≤ (32 : Byte).toNat ∧ (28 : Byte).toNat < 29
      ∧ 29 ≤ (29 : Byte).toNat ∧ statusBody 2 (primary .off) = some [0, 0, 0, 0, 0, 0, 1, 0]
      ∧ (∀ c ∈ [Instr.status 2, .status 5, .readParam 11, .readParam 12, .readRegion 31, .readRegion 32, .readAlerts,
          .readMarker, .readCounters 28, .readCounters 29], Carries (carried c) c) := by decide +kernel

theorem wit_WriteParamStoresInRange :
    CommandTaken (primary .off) ∧ 12 ≤ (12 : Byte).toNat ∧ (0 : BitVec 16).toNat < paramMin .window
      ∧ paramMax .window < (129 : BitVec 16).toNat ∧ paramMax .window = (128 : BitVec 16).toNat
      ∧ paramOffOnly .window = true ∧ ownStateOff (primary .catchup) = false ∧ ownStateOff (primary .off) = true
      ∧ paramOffOnly .serviceDivisor = false ∧ (primary .off).port.responses = [] ∧ (primary .off).svcLine.tx = none
      ∧ paramMin .linkDivisor ≤ (0 : BitVec 16).toNat
      ∧ (∀ c ∈ [Instr.writeParam 12 0, .writeParam 0 0, .writeParam 0 129, .writeParam 0 128, .writeParam 10 0,
          .writeParam 11 1023], Carries (carried c) c) := by decide +kernel

theorem wit_RegionCommandsChangeTheTable :
    regionIndex 32 = none ∧ loadedRegion 268435450 10 1 0 = none ∧ regionIndex 31 = some 31
      ∧ loadedRegion 268435440 16 1 9 = some { base := 268435440, count := 16, kind := .guard }
      ∧ loadedRegion 36864 32768 0 0 = some { base := 36864, count := 32768, kind := .mirror .async }
      ∧ Region.overlaps { base := 36864, count := 32768, kind := .mirror .async } { base := 40000, count := 1, kind := .signal } = true
      ∧ ownStateOff (table46 .linking) = false ∧ ownStateOff (table46 .off) = true
      ∧ 65536 < mirrorPageTotal ((table46 .off).regions.set 3 (some { base := 50000, count := 32769, kind := .mirror .async }))
      ∧ mirrorPageTotal ((table46 .off).regions.set 3 (some { base := 50000, count := 32768, kind := .mirror .async })) ≤ 65536
      ∧ (table46 .off).regions[3] = none ∧ CommandTaken (table46 .off) ∧ CommandTaken (table46 .linking)
      ∧ (table46 .linking).regions[2] = some { base := 0, count := 16, kind := .guard }
      ∧ (∀ c ∈ [Instr.loadRegion 32 0 1 0 0, .loadRegion 3 36864 32768 0 0, .loadRegion 3 50000 32769 0 0, .loadRegion 3 50000 32768 0 0,
          .clearRegion 32, .clearRegion 2, .clearRegion 3], Carries (carried c) c)
      ∧ (entry (write 102) (.mirror 0 .async) .primary).state = .queued := by decide +kernel

theorem wit_StartOffersASessionOrListens :
    ownStateOff (primary .catchup) = false ∧ ownStateOff (primary .off) = true
      ∧ (after (.loadRegion 6 500 1 0 0) (queued (entry (write 102) (.mirror 0 .async) .primary) (primary .off))
        ).path.unsettledCount ≠ 0
      ∧ (running .replica).replica.state = .off ∧ (running .replica).path.unsettledCount = 0
      ∧ sweepAtRest (primary .off).mirror ∧ (primary .off).path.unsettledCount = 0 ∧ CommandTaken (primary .off)
      ∧ CommandTaken (running .replica)
      ∧ Carries (carried .startFull) .startFull ∧ Carries (carried .startClean) .startClean := by decide +kernel

theorem wit_StopAndDrain :
    ownStateOff (primary .off) = true ∧ (primary .streaming).mirror.state = .streaming ∧ CommandTaken (primary .streaming)
      ∧ CommandTaken replica ∧ replica.replica.state = .session
      ∧ (applied (fun r => { r with state := .listening }) replica).replica.state = .listening
      ∧ (primary .catchup).mirror.state = .catchup ∧ ResponseFits (primary .draining)
      ∧ (primary .draining).port.slot = some .stopDrain ∧ (primary .draining).mirror.drainTimer.isSome = true
      ∧ Carries (carried .stopNow) .stopNow ∧ Carries (carried .stopDrain) .stopDrain ∧ Carries (carried .abort) .abort := by decide +kernel

theorem wit_ResyncMarksItsScope :
    CommandTaken (primary .streaming) ∧ MapOk (primary .streaming) ∧ resyncInRange (.region 32) = false
      ∧ resyncInRange (.pages 0 65537) = false ∧ resyncInRange (.pages 109 2) = true ∧ resyncInRange .all = true
      ∧ replica.role = .replica ∧ resyncPlan (.pages 110 1) (primary .streaming) = none
      ∧ resyncPlan (.pages 109 1) (primary .streaming) = some { scope := 0, pages := [109] }
      ∧ resyncPlan (.region 1) (primary .streaming) = some { scope := 1, pages := [900] }
      ∧ (∀ c ∈ [ResyncScope.region 32, .pages 0 65537, .pages 109 2, .all], Carries (carried (.resync c)) (.resync c)) := by
  decide +kernel

/-- A primary whose table has no entry. -/
def mapless (m : MirrorState) : State := { primary m with regions := State.reset.regions }

/-- The plans, and a RESYNC ALL without pages in STREAMING and elsewhere. -/
theorem wit_ResyncMarksItsScope_plans :
    (∀ m ∈ [MirrorState.streaming, .tracking], CommandTaken (mapless m) ∧ (mapless m).mirror.state = m
        ∧ resyncPlan .all (mapless m) = some { scope := 2, pages := [] })
      ∧ (mapless .streaming).mirror.catchupActive = false ∧ (mapless .tracking).role = .primary
      ∧ regionAt (primary .streaming).regions 15 = some (4, { base := 0, count := 16, kind := .guard })
      ∧ regionAt (primary .streaming).regions 109 = some (0, { base := 100, count := 10, kind := .mirror .async })
      ∧ (109 + 1 ≤ 100 + 10) ∧ (100 + 10 < 109 + 2) ∧ (primary .streaming).regions[3] = none := by decide

theorem wit_ClearingCommandsClearWhatTheyName :
    CommandTaken overflowed ∧ overflowed.exceptions.records ≠ [] ∧ (28 : Byte).toNat < 29 ∧ 29 ≤ (254 : Byte).toNat
      ∧ (primary .off).exceptions.records = []
      ∧ (∀ c ∈ [Instr.readException, .clearOverflow, .ackAlerts 255, .setAlertMask 0, .clearCounters 28, .clearCounters 255,
          .clearCounters 254], Carries (carried c) c) := by decide +kernel

theorem wit_RoleCommandsChangeTheRole :
    CommandTaken (primary .off) ∧ CommandTaken replica ∧ 2 ≤ (2 : Byte).toNat ∧ (1 : Byte).toNat ≤ 1
      ∧ ownStateOff (primary .catchup) = false ∧ ownStateOff (granted (.sweep 0) (primary .off)) = true
      ∧ (granted (.sweep 0) (primary .off)).path.ownOutstanding = true ∧ (primary .off).path.ownOutstanding = false
      ∧ replica.replica.consistency ≠ .consistent ∧ replica.replica.applying = none
      ∧ (applying 0 1 0).replica.applying.isSome = true
      ∧ (applied (fun r => { r with consistency := .consistent }) replica).replica.consistency = .consistent
      ∧ (∀ c ∈ [Instr.setRole 0, .setRole 1, .setRole 2, .promote 0, .promote 1, .promote 2], Carries (carried c) c) := by decide +kernel

theorem wit_SoftResetStopsAndCompletes :
    CommandTaken (primary .streaming) ∧ CommandTaken (applying 0 1 0) ∧ (applying 0 1 0).replica.applying.isSome = true
      ∧ (after .softReset (applying 0 1 0)).port.slot = some .softReset ∧ replica.replica.applying = none
      ∧ Carries (carried .softReset) .softReset ∧ ownStateOff (primary .off) = true ∧ (primary .off).phase = .running
      ∧ (primary .streaming).mirror.state ≠ .off ∧ replica.replica.state = .session
      ∧ (applied (fun r => { r with state := .listening }) replica).replica.state = .listening
      ∧ (collecting (some [1])).linkLine.collected.isSome = true := by decide +kernel

theorem wit_EncodedLinkFramesParseBack :
    frameWf { session := 255, body := .hello { hello with window := 128 } } = true
      ∧ frameWf { session := 9, body := .seq 65535 (.data 0xFFFFFFFFC0 1 [7]) } = true := by decide

theorem wit_ReportedExceptionsFollowTheCases :
    overflowed.exceptions.overflow = true ∧ (primary .off).exceptions.overflow = false
      ∧ (primary .off).exceptions.records.length < 16
      ∧ 16 ≤ (List.replicate 16 ({ kind := .badSource, source := some 255, addr := 0, region := none, count := 1 }
          : ExceptionRecord)).length := by decide

/-- A primary in CATCHUP in the middle of its work: a journal with a SENT, an AWAITING and a PAGE entry, a write in memory and
one queued with a pledge, a page COPYING with its chunk read under way, and a command waiting. -/
def busy : State :=
  { primary .catchup with
    pending := [.memoryResponse 3 0 .okay []],
    path := { issued.path with
      table := (Path.reset.table.set 0 (.used (waiting (write 101) .asMemory (some 1)))).set 1
        (.used { entry (write 900) (.mirror 1 .syncOpen) .primary with pledge := true }),
      hostQueue := [1] },
    journal := {
      entries := [dataEntry 0 100 (.sent 7), dataEntry 1 101 (.awaiting 0),
        { id := 2, body := .page 104 0 0 [], state := .ready }],
      sendPoint := 1, lastSeq := some 7, pledges := 1, nextId := 3,
      reservation := some { page := 104, chunk := 1, region := 0, cancelled := false, answers := [] } },
    mirror := { (copying 1 false).mirror with drainTimer := none } }

/-- A replica in SESSION with six frames queued, the oldest one's write in flight, and a command waiting. -/
def busyReplica : State := { applying 7 6 7 with pending := [.memoryResponse 255 0 .okay []] }

theorem wit_StepsKeepTheExceptionList : ExceptionsOk overflowed ∧ ∃ t, step overflowed = .next t := ⟨by decide, _, rfl⟩

theorem wit_StepsKeepTheConfigurationInBounds :
    RegionsOk busy ∧ ParamsOk busy ∧ ∃ t, step busy = .next t :=
  ⟨by decide, fun p => by cases p <;> decide, _, rfl⟩

theorem wit_StepsKeepTheBlocksCoordinated :
    Coordinated busy ∧ Coordinated busyReplica ∧ ∃ t, step busyReplica = .next t := ⟨by decide, by decide, _, rfl⟩

theorem wit_StepsKeepTheDirtyPageMap :
    Coordinated busy ∧ MapOk busy ∧ ∃ t, step busy = .next t := ⟨by decide, by decide, _, rfl⟩

theorem wit_StepsKeepTheApplyQueue :
    Coordinated busyReplica ∧ ReplicaOk busyReplica ∧ ∃ t, step busyReplica = .next t := ⟨by decide, by decide, _, rfl⟩

theorem wit_StepsKeepTheReplyList : RepliesOk busyReplica ∧ ∃ t, step busyReplica = .next t := ⟨by decide, _, rfl⟩

theorem wit_StepsKeepTheMemoryPath :
    PathOk busy ∧ PathOk holding ∧ ∃ t, step busy = .next t := ⟨by decide, by decide, _, rfl⟩

theorem wit_StepsKeepTheJournalsRoom :
    PathOk busy ∧ RoomOk busy ∧ ∃ t, step busy = .next t := ⟨by decide, by decide, _, rfl⟩

theorem wit_StepsKeepTheCaptureLinks :
    Coordinated busy ∧ CapturesOk busy ∧ ∃ t, step busy = .next t := ⟨by decide, by decide, _, rfl⟩

theorem wit_StepsKeepTheSendOrder :
    Coordinated busy ∧ MapOk busy ∧ CapturesOk busy ∧ SendOrderOk busy ∧ ∃ t, step busy = .next t :=
  ⟨by decide, by decide, by decide, by decide, _, rfl⟩

end Sys2Proof.Tests
end

section
/-! PROOFS. What one release of a held write does to its tracking entry and to the answer queue, and what the releases of the
whole held list do one after another (R63, R64, R100). -/
namespace Sys2Proof.Proofs

open Sys2Proof.Machine Sys2Proof.Safety

/-! ### Tracking entries read after a write -/

/-- A table read at the number that was written. -/
theorem getElem_set_same {α : Type} {n : Nat} (v : Vector α n) (t : Fin n) (x : α) : (v.set t x)[t] = x :=
  Vector.getElem_set_self t.isLt

/-- A table read at another number than was written. -/
theorem getElem_set_other {α : Type} {n : Nat} (v : Vector α n) {t u : Fin n} (x : α) (h : u ≠ t) :
    (v.set t x)[u] = v[u] :=
  Vector.getElem_set_ne t.isLt u.isLt (fun e => h (Fin.ext e.symm))

/-- A change of a tracking entry in use. -/
theorem modifyEntry_used {p : Path} {t : Fin 64} {e : TrackEntry} (f : TrackEntry → TrackEntry)
    (h : p.table[t] = .used e) : p.modifyEntry t f = { p with table := p.table.set t (.used (f e)) } := by
  simp only [Path.modifyEntry, h]

/-- A change of one tracking entry leaves every other as it is. -/
theorem modifyEntry_other (p : Path) {t u : Fin 64} (f : TrackEntry → TrackEntry) (h : u ≠ t) :
    (p.modifyEntry t f).table[u] = p.table[u] := by
  unfold Path.modifyEntry
  split
  · exact getElem_set_other _ _ h
  · rfl
  · rfl

/-- A decided response: the entry ANSWERING with it, at the new end of the answer queue (R102). -/
theorem answer_used {p : Path} {t : Fin 64} {e : TrackEntry} (a : HostAnswer) (h : p.table[t] = .used e) :
    p.answer t a = { p with table := p.table.set t (.used { e with state := .answering, response := some a }),
                            answerQueue := p.answerQueue ++ [t] } := by
  rw [Path.answer_frame, modifyEntry_used _ h]

/-- An emptied journal leaves an entry in use without its capture link, and otherwise as it was (R99, R100). -/
theorem dropCaptures_used {p : Path} {t : Fin 64} {e : TrackEntry} (h : p.table[t] = .used e) :
    p.dropCaptures.table[t] = .used { e with capture := none } := by
  simp only [Fin.getElem_fin] at h
  simp [Path.dropCaptures, h]

/-! ### One release by policy -/

/-- A held write's tracking entry after its release by policy: the response decided if memory has answered OKAY, and otherwise
its completion rule set (R63, R64). -/
def releasedEntry (r : HeldRecord) (e : TrackEntry) : TrackEntry :=
  if r.memOkay then { e with state := .answering, response := some (writeAnswer (policyStatus r.policy)) }
  else { e with rule := some (policyRule r.policy) }

/-- A release by policy changes the tracking table and the answer queue alone. -/
theorem releaseOne_frame (p : Path) (r : HeldRecord) :
    releaseOne p r = { p with table := (releaseOne p r).table, answerQueue := (releaseOne p r).answerQueue } := by
  unfold releaseOne
  split
  · rw [Path.answer_frame]
  · rw [Path.modifyEntry_frame]

/-- A release by policy joins the answer queue exactly if memory has answered OKAY (R63, R64). -/
theorem releaseOne_answerQueue (p : Path) (r : HeldRecord) :
    (releaseOne p r).answerQueue = p.answerQueue ++ if r.memOkay then [r.track] else [] := by
  unfold releaseOne
  split
  · rw [Path.answer_frame]
  · rw [Path.modifyEntry_frame]; simp

/-- The released write's own tracking entry. -/
theorem releaseOne_used {p : Path} {r : HeldRecord} {e : TrackEntry} (h : p.table[r.track] = .used e) :
    (releaseOne p r).table[r.track] = .used (releasedEntry r e) := by
  unfold releaseOne releasedEntry
  split
  · rw [answer_used _ h, getElem_set_same]
  · rw [modifyEntry_used _ h, getElem_set_same]

/-- A release by policy leaves the tracking entries of other writes as they are. -/
theorem releaseOne_other (p : Path) {r : HeldRecord} {t : Fin 64} (h : t ≠ r.track) :
    (releaseOne p r).table[t] = p.table[t] := by
  unfold releaseOne
  split
  · rw [Path.answer_frame]; exact modifyEntry_other p _ h
  · exact modifyEntry_other p _ h

/-! ### The releases of a list of records, in list order -/

/-- Releases by policy change the tracking table and the answer queue alone. -/
theorem releases_frame (rs : List HeldRecord) (p : Path) :
    rs.foldl releaseOne p =
      { p with table := (rs.foldl releaseOne p).table, answerQueue := (rs.foldl releaseOne p).answerQueue } := by
  induction rs generalizing p with
  | nil => rfl
  | cons r rs ih => rw [List.foldl_cons, ih, releaseOne_frame]

/-- The released writes that memory has answered join the answer queue in list order (R63). -/
theorem releases_answerQueue (rs : List HeldRecord) (p : Path) :
    (rs.foldl releaseOne p).answerQueue = p.answerQueue ++ (rs.filter (fun r => r.memOkay)).map HeldRecord.track := by
  induction rs generalizing p with
  | nil => simp
  | cons r rs ih =>
    rw [List.foldl_cons, ih, releaseOne_answerQueue, List.filter_cons, List.append_assoc]
    split <;> simp

/-- A tracking entry that no record of the list names is left as it is. -/
theorem releases_other (rs : List HeldRecord) (p : Path) (t : Fin 64) (h : ∀ r ∈ rs, r.track ≠ t) :
    (rs.foldl releaseOne p).table[t] = p.table[t] := by
  induction rs generalizing p with
  | nil => rfl
  | cons r rs ih =>
    rw [List.foldl_cons, ih _ (fun q hq => h q (List.mem_cons_of_mem _ hq)),
      releaseOne_other p (h r List.mem_cons_self).symm]

/-- With one record for each tracking entry, every record's entry is released once, by its own record (R57). -/
theorem releases_used (rs : List HeldRecord) (p : Path) (hn : (rs.map HeldRecord.track).Nodup) {r : HeldRecord}
    {e : TrackEntry} (hr : r ∈ rs) (he : p.table[r.track] = .used e) :
    (rs.foldl releaseOne p).table[r.track] = .used (releasedEntry r e) := by
  induction rs generalizing p with
  | nil => cases hr
  | cons q rs ih =>
    obtain ⟨hq, hn'⟩ := List.nodup_cons.1 hn
    rw [List.foldl_cons]
    rcases List.mem_cons.1 hr with rfl | hr'
    · rw [releases_other rs _ r.track (fun x hx h => hq (h ▸ List.mem_map_of_mem hx)), releaseOne_used he]
    · have hne : r.track ≠ q.track := fun h => hq (h ▸ List.mem_map_of_mem hr')
      exact ih _ hn' hr' ((releaseOne_other p hne).trans he)

/-! ### The journal's release as a whole -/

/-- A released entry without its capture link, in the words of the statement (R63, R64, R100). -/
theorem releasedEntry_uncaptured (r : HeldRecord) (e : TrackEntry) :
    { releasedEntry r e with capture := none } =
      if r.memOkay then
        { e with capture := none, state := .answering,
                 response := some { status := if r.policy = .closed then .error else .okay, data := [] } }
      else { e with capture := none, rule := some (if r.policy = .closed then .closed else .asMemory) } := by
  unfold releasedEntry
  cases r.memOkay <;> cases r.policy <;> rfl

/-- Settles O27: the releases in list order, each of an entry of its own, and then the capture links dropped. -/
theorem heldWritesAreReleasedByPolicy : Obligations.HeldWritesAreReleasedByPolicy := by
  intro s hs
  obtain ⟨-, -, -, -, -, -, -, -, -, -, htracks, -, -⟩ := hs
  refine ⟨releases_answerQueue s.held s.path, fun r e hr he => ?_, fun t e he hfree => ?_, ?_⟩
  · rw [← releasedEntry_uncaptured]
    exact dropCaptures_used (releases_used s.held s.path htracks hr he)
  · exact dropCaptures_used ((releases_other s.held s.path t hfree).trans he)
  · unfold releasedPath Path.dropCaptures
    rw [releases_frame]

end Sys2Proof.Proofs
end

section
/-! PROOFS. The invariant of the memory path seen from one tracking entry at a time, and what each operation of the path
does to it: an operation that writes one entry keeps the invariant at every other entry, so it is judged at its own. -/
namespace Sys2Proof.Proofs

open Sys2Proof.Machine Sys2Proof.Safety

/-! ### The invariant, one tracking entry at a time -/

/-- What PathOk asks of the fields of a tracking entry alone (R6, R88, R96). -/
structure EntryOk (x : TrackSlot) : Prop where
  pledged : slotPledged x = true → slotState x = some .queued
  answered : slotState x = some .answering → slotAnswered x = true
  undecided : slotState x = some .queued → slotRule x = none
  readPlain : slotReadPlain x = true

/-- What PathOk asks of tracking entry `t`, which reads `x`: it stands in the queue of its state, and it has a held record
exactly if it waits on one (R57, R61, R88, R93, R102). -/
structure TagOk (t : Fin 64) (x : TrackSlot) (hostQueue answerQueue : List (Fin 64)) (held : List HeldRecord) : Prop where
  entry : EntryOk x
  queued : t ∈ hostQueue ↔ slotState x = some .queued
  answering : t ∈ answerQueue ↔ slotState x = some .answering
  record : ∀ r ∈ held, r.track = t →
    slotHeld x = true ∧ slotState x = some (if r.memOkay then .kept else .inMemory)
  waits : slotHeld x = true → ∃ r ∈ held, r.track = t

/-- The internal source holds the tags that wait for their grant, each once (R94). -/
structure OwnOk (p : Path) : Prop where
  nodup : p.ownQueue.Nodup
  waiting : ∀ u : Fin 8, u ∈ p.ownQueue ↔ ownWaiting p.own[u] = true

/-- PathOk of a memory path and a held list, by tracking entry. -/
structure MemoryPathOk (p : Path) (held : List HeldRecord) : Prop where
  hostNodup : p.hostQueue.Nodup
  answerNodup : p.answerQueue.Nodup
  trackNodup : (held.map HeldRecord.track).Nodup
  tags : ∀ t : Fin 64, TagOk t p.table[t] p.hostQueue p.answerQueue held
  own : OwnOk p

/-- PathOk reads the memory path and the held list alone. -/
theorem pathOk_iff (s : State) : PathOk s ↔ MemoryPathOk s.path s.held := by
  constructor
  · rintro ⟨hh, hhost, ha, hans, hpl, hresp, hrule, hread, ho, hown, ht, hrec, hwait⟩
    exact ⟨hh, ha, ht, fun t => ⟨⟨hpl t, hresp t, hrule t, hread t⟩, hhost t, hans t,
      fun r hr e => e ▸ hrec r hr, hwait t⟩, ho, hown⟩
  · intro h
    exact ⟨h.hostNodup, fun t => (h.tags t).queued, h.answerNodup, fun t => (h.tags t).answering,
      fun t => (h.tags t).entry.pledged, fun t => (h.tags t).entry.answered, fun t => (h.tags t).entry.undecided,
      fun t => (h.tags t).entry.readPlain, h.own.nodup, h.own.waiting, h.trackNodup,
      fun r hr => (h.tags r.track).record r hr rfl, fun t => (h.tags t).waits⟩

section
variable {p q : Path} {held held' : List HeldRecord} {t : Fin 64} {e : TrackEntry}

/-- A tracking entry that is not QUEUED is not in the host queue. -/
theorem MemoryPathOk.not_mem_hostQueue (h : MemoryPathOk p held) (ht : slotState p.table[t] ≠ some .queued) :
    t ∉ p.hostQueue := fun hm => ht ((h.tags t).queued.1 hm)

/-- A tracking entry that is not ANSWERING is not in the answer queue. -/
theorem MemoryPathOk.not_mem_answerQueue (h : MemoryPathOk p held) (ht : slotState p.table[t] ≠ some .answering) :
    t ∉ p.answerQueue := fun hm => ht ((h.tags t).answering.1 hm)

/-- A tracking entry that does not wait on a held record has none. -/
theorem MemoryPathOk.no_record (h : MemoryPathOk p held) (ht : slotHeld p.table[t] = false) :
    ∀ r ∈ held, r.track ≠ t := by
  intro r hr e
  have hw := ((h.tags t).record r hr e).1
  rw [ht] at hw
  cases hw

/-- A tracking entry waits on a held record only in IN_MEMORY and in KEPT (R88). -/
theorem slotHeld_false {x : TrackSlot} (hm : slotState x ≠ some .inMemory) (hk : slotState x ≠ some .kept) :
    slotHeld x = false := by
  cases x with
  | used e =>
    simp only [slotState, ne_eq, Option.some.injEq] at hm hk
    simp [slotHeld, hm, hk]
  | free => rfl
  | stale _ _ => rfl

/-- A number joins the end of a queue that does not hold it. -/
theorem nodup_append_singleton {α : Type} {l : List α} {a : α} (h : l.Nodup) (ha : a ∉ l) : (l ++ [a]).Nodup := by
  refine List.nodup_append.2 ⟨h, List.pairwise_singleton _ _, fun x hx y hy e => ?_⟩
  rw [List.mem_singleton] at hy
  exact ha (hy ▸ e ▸ hx)

/-- An operation that writes one tracking entry, and moves that entry alone in the queues and in the held list, keeps the
invariant if the entry itself is right afterwards. -/
theorem MemoryPathOk.entryWritten {x : TrackSlot} (h : MemoryPathOk p held)
    (htable : q.table = p.table.set t x) (hown : q.own = p.own ∧ q.ownQueue = p.ownQueue)
    (hhost : q.hostQueue.Nodup ∧ ∀ u, u ≠ t → (u ∈ q.hostQueue ↔ u ∈ p.hostQueue))
    (hanswer : q.answerQueue.Nodup ∧ ∀ u, u ≠ t → (u ∈ q.answerQueue ↔ u ∈ p.answerQueue))
    (hheld : (held'.map HeldRecord.track).Nodup ∧ ∀ r, r.track ≠ t → (r ∈ held' ↔ r ∈ held))
    (ht : TagOk t x q.hostQueue q.answerQueue held') : MemoryPathOk q held' := by
  refine ⟨hhost.1, hanswer.1, hheld.1, fun u => ?_, ?_, ?_⟩
  · by_cases hu : u = t
    · subst hu
      rw [htable, getElem_set_same]
      exact ht
    · have hx : q.table[u] = p.table[u] := by rw [htable, getElem_set_other _ _ hu]
      have hr : ∀ r : HeldRecord, r.track = u → (r ∈ held' ↔ r ∈ held) := fun r e => hheld.2 r (e ▸ hu)
      obtain ⟨entry, queued, answering, record, waits⟩ := h.tags u
      rw [hx]
      exact ⟨entry, (hhost.2 u hu).trans queued, (hanswer.2 u hu).trans answering,
        fun r hm e => record r ((hr r e).1 hm) e,
        fun hw => (waits hw).imp fun r hm => ⟨(hr r hm.2).2 hm.1, hm.2⟩⟩
  · rw [hown.2]; exact h.own.nodup
  · rw [hown.1, hown.2]; exact h.own.waiting

/-! ### The take -/

/-- The lowest free tracking entry is free (R91). -/
theorem freeEntry_free (h : p.freeEntry = some t) : p.table[t] = .free := by
  simpa using List.find?_some h

/-- A free tracking entry stands in no queue and has no held record (R88). -/
theorem MemoryPathOk.free_unused (h : MemoryPathOk p held) (ht : p.table[t] = .free) :
    t ∉ p.hostQueue ∧ t ∉ p.answerQueue ∧ ∀ r ∈ held, r.track ≠ t :=
  ⟨h.not_mem_hostQueue (by rw [ht]; nofun), h.not_mem_answerQueue (by rw [ht]; nofun),
    h.no_record (by rw [ht]; rfl)⟩

/-- A request taken into a free tracking entry and queued (R91, R93). -/
theorem MemoryPathOk.taken (h : MemoryPathOk p held) (ht : p.table[t] = .free) (hs : e.state = .queued)
    (hr : e.rule = none) (hk : e.pledge = true → e.req.kind = .write) :
    MemoryPathOk { p.occupy t e with hostQueue := (p.occupy t e).hostQueue ++ [t] } held := by
  obtain ⟨hh, ha, hrec⟩ := h.free_unused ht
  refine h.entryWritten rfl ⟨rfl, rfl⟩ ⟨nodup_append_singleton h.hostNodup hh, fun u hu => by simp [Path.occupy, hu]⟩
    ⟨h.answerNodup, fun u _ => .rfl⟩ ⟨h.trackNodup, fun r _ => .rfl⟩ ⟨⟨?_, ?_, ?_, ?_⟩, ?_, ?_, ?_, ?_⟩
  · simp [slotState, hs]
  · simp [slotState, hs]
  · simp [slotRule, hr]
  · cases hk' : e.req.kind <;> simp_all [slotReadPlain]
  · simp [slotState, hs]
  · simpa [slotState, hs, Path.occupy] using ha
  · exact fun r hm e => absurd e (hrec r hm)
  · simp [slotHeld, hs]

/-! ### The forward event -/

/-- How a forward event changes the held list: a write under the rule HELD joins it, and nothing else does (R60, R96). -/
def HeldJoined (t : Fin 64) (rule : Option CompletionRule) (held held' : List HeldRecord) : Prop :=
  (rule ≠ some .held ∧ held' = held)
    ∨ (rule = some .held ∧ ∃ r : HeldRecord, r.track = t ∧ r.memOkay = false ∧ held' = held ++ [r])

/-- The oldest request of the host queue is granted: its entry goes from QUEUED to IN_MEMORY (R88, R95, R96). -/
theorem MemoryPathOk.forwarded {ts : List (Fin 64)} {e' : TrackEntry} (h : MemoryPathOk p held)
    (hq : p.hostQueue = t :: ts) (hs : e'.state = .inMemory) (hp : e'.pledge = false)
    (hk : e'.req.kind = .read → e'.rule = none) (hj : HeldJoined t e'.rule held held') :
    MemoryPathOk (p.grantHost t ts e e') held' := by
  have hqueued : slotState p.table[t] = some .queued := (h.tags t).queued.1 (by simp [hq])
  have hnodup := h.hostNodup
  rw [hq, List.nodup_cons] at hnodup
  have ha : t ∉ p.answerQueue := h.not_mem_answerQueue (by rw [hqueued]; nofun)
  have hrec : ∀ r ∈ held, r.track ≠ t :=
    h.no_record (slotHeld_false (by rw [hqueued]; nofun) (by rw [hqueued]; nofun))
  have hentry : EntryOk (.used e') := by
    refine ⟨by simp [slotPledged, hp], by simp [slotState, hs], by simp [slotState, hs], ?_⟩
    cases hk' : e'.req.kind <;> simp_all [slotReadPlain]
  refine h.entryWritten rfl ⟨rfl, rfl⟩ ⟨hnodup.2, fun u hu => by simp [Path.grantHost, hq, hu]⟩
    ⟨h.answerNodup, fun u _ => .rfl⟩ ?_ ⟨hentry, ?_, ?_, ?_, ?_⟩
  · rcases hj with ⟨-, rfl⟩ | ⟨-, r, hr, -, rfl⟩
    · exact ⟨h.trackNodup, fun r _ => .rfl⟩
    · refine ⟨?_, fun q hq => by simp [show q ≠ r from fun e => hq (e ▸ hr)]⟩
      rw [List.map_append]
      exact nodup_append_singleton h.trackNodup (by simpa [hr] using hrec)
  · simpa [Path.grantHost, slotState, hs] using hnodup.1
  · simpa [Path.grantHost, slotState, hs] using ha
  · rcases hj with ⟨-, rfl⟩ | ⟨hheld, r, hr, hm, rfl⟩
    · exact fun q hq e => absurd e (hrec q hq)
    · intro q hq hqt
      rcases List.mem_append.1 hq with hq | hq
      · exact absurd hqt (hrec q hq)
      · obtain rfl := List.mem_singleton.1 hq
        simp [slotHeld, slotState, hs, hheld, hm]
  · rcases hj with ⟨hheld, -⟩ | ⟨-, r, hr, -, rfl⟩
    · simp [slotHeld, hs, hheld]
    · exact fun _ => ⟨r, by simp, hr⟩

/-! ### Responses decided, kept and passed back -/

/-- An entry past its forward event has given up its pledge (R6). -/
theorem MemoryPathOk.unpledged (h : MemoryPathOk p held) (ht : p.table[t] = .used e) (hs : e.state ≠ .queued) :
    e.pledge = false := by
  have hp := (h.tags t).entry.pledged
  rw [ht] at hp
  simpa [slotPledged, slotState, hs] using hp

/-- A READ has no completion rule (R96). -/
theorem MemoryPathOk.read_plain (h : MemoryPathOk p held) (ht : p.table[t] = .used e) (hk : e.req.kind = .read) :
    e.rule = none := by
  have hr := (h.tags t).entry.readPlain
  rw [ht] at hr
  simp [slotReadPlain, hk] at hr
  exact hr.2

/-- The tracking entries of a held list stay different when records leave it. -/
theorem nodup_tracks_filter (f : HeldRecord → Bool) (h : (held.map HeldRecord.track).Nodup) :
    ((held.filter f).map HeldRecord.track).Nodup :=
  h.sublist (List.filter_sublist.map _)

/-- A response is decided for an entry that memory or its held record kept waiting; its held record, if it has one, leaves
the list (R61, R88, R102). -/
theorem MemoryPathOk.answered (h : MemoryPathOk p held) (a : HostAnswer) (ht : p.table[t] = .used e)
    (hq : e.state ≠ .queued) (ha : e.state ≠ .answering) :
    MemoryPathOk (p.answer t a) (held.filter (fun r => r.track ≠ t)) := by
  have hh : t ∉ p.hostQueue := h.not_mem_hostQueue (by rw [ht]; simpa [slotState] using hq)
  have haq : t ∉ p.answerQueue := h.not_mem_answerQueue (by rw [ht]; simpa [slotState] using ha)
  have hread : slotReadPlain (.used e) = true := ht ▸ (h.tags t).entry.readPlain
  rw [answer_used a ht]
  refine h.entryWritten rfl ⟨rfl, rfl⟩ ⟨h.hostNodup, fun u _ => .rfl⟩
    ⟨nodup_append_singleton h.answerNodup haq, fun u hu => by simp [hu]⟩
    ⟨nodup_tracks_filter _ h.trackNodup, fun r hr => by simp [hr]⟩ ⟨⟨?_, ?_, ?_, ?_⟩, ?_, ?_, ?_, ?_⟩
  · simp [slotPledged, h.unpledged ht hq]
  · simp [slotAnswered]
  · simp [slotState]
  · exact hread
  · simpa [slotState] using hh
  · simp [slotState]
  · exact fun r hr e => absurd e (by simpa using (List.mem_filter.1 hr).2)
  · simp [slotHeld]

/-- A response is decided for an entry that waits on no held record (R98, R99). -/
theorem MemoryPathOk.answered_unheld (h : MemoryPathOk p held) (a : HostAnswer) (ht : p.table[t] = .used e)
    (hs : e.state = .inMemory) (hr : e.rule ≠ some .held) : MemoryPathOk (p.answer t a) held := by
  have hrec : ∀ r ∈ held, r.track ≠ t := h.no_record (by rw [ht]; simp [slotHeld, hs, hr])
  have hf : held.filter (fun r => r.track ≠ t) = held := List.filter_eq_self.2 (by simpa using hrec)
  rw [← hf]
  exact h.answered a ht (by rw [hs]; nofun) (by rw [hs]; nofun)

/-- A request refused at its take: its entry goes to ANSWERING at once (R75, R91). -/
theorem MemoryPathOk.refused (h : MemoryPathOk p held) (a : HostAnswer) (ht : p.table[t] = .free)
    (hr : e.rule = none) (hp : e.pledge = false) : MemoryPathOk ((p.occupy t e).answer t a) held := by
  obtain ⟨hh, haq, hrec⟩ := h.free_unused ht
  rw [answer_used (p := p.occupy t e) a (getElem_set_same _ _ _)]
  refine h.entryWritten (Vector.set_set ..) ⟨rfl, rfl⟩ ⟨h.hostNodup, fun u _ => .rfl⟩
    ⟨nodup_append_singleton h.answerNodup haq, fun u hu => by simp [Path.occupy, hu]⟩ ⟨h.trackNodup, fun r _ => .rfl⟩
    ⟨⟨?_, ?_, ?_, ?_⟩, ?_, ?_, ?_, ?_⟩
  · simp [slotPledged, hp]
  · simp [slotAnswered]
  · simp [slotState]
  · simp [slotReadPlain, hp, hr]
  · simpa [slotState, Path.occupy] using hh
  · simp [slotState]
  · exact fun r hm e => absurd e (hrec r hm)
  · simp [slotHeld]

/-- A write that waits for memory has its completion rule decided, and its held record leaves the list (R64, R100). -/
theorem MemoryPathOk.ruleDecided (h : MemoryPathOk p held) {c : CompletionRule} (ht : p.table[t] = .used e)
    (hs : e.state = .inMemory) (hr : e.rule = some .held) (hc : c ≠ .held) :
    MemoryPathOk (p.modifyEntry t (fun e => { e with rule := some c })) (held.filter (fun r => r.track ≠ t)) := by
  have hh : t ∉ p.hostQueue := h.not_mem_hostQueue (by rw [ht]; simp [slotState, hs])
  have haq : t ∉ p.answerQueue := h.not_mem_answerQueue (by rw [ht]; simp [slotState, hs])
  have hk : e.req.kind = .write := by
    cases hk : e.req.kind with
    | write => rfl
    | read => rw [h.read_plain ht hk] at hr; cases hr
  rw [modifyEntry_used _ ht]
  refine h.entryWritten rfl ⟨rfl, rfl⟩ ⟨h.hostNodup, fun u _ => .rfl⟩ ⟨h.answerNodup, fun u _ => .rfl⟩
    ⟨nodup_tracks_filter _ h.trackNodup, fun r hr => by simp [hr]⟩ ⟨⟨?_, ?_, ?_, ?_⟩, ?_, ?_, ?_, ?_⟩
  · simp [slotPledged, h.unpledged ht (by rw [hs]; nofun)]
  · simp [slotState, hs]
  · simp [slotState, hs]
  · simp [slotReadPlain, hk]
  · simpa [slotState, hs] using hh
  · simpa [slotState, hs] using haq
  · exact fun r hr e => absurd e (by simpa using (List.mem_filter.1 hr).2)
  · simp [slotHeld, hs, hc]

/-- The held record of a write whose memory status becomes OKAY (R61). -/
def memoryOkay (t : Fin 64) (r : HeldRecord) : HeldRecord :=
  if r.track = t then { r with memOkay := true } else r

/-- A memory status of OKAY leaves a held record at its tracking entry. -/
theorem memoryOkay_track (r : HeldRecord) : (memoryOkay t r).track = r.track := by
  unfold memoryOkay
  split <;> rfl

/-- A memory status of OKAY leaves the records of other tracking entries as they are. -/
theorem mem_memoryOkay {r : HeldRecord} (hr : r.track ≠ t) : r ∈ held.map (memoryOkay t) ↔ r ∈ held := by
  constructor
  · intro hm
    obtain ⟨q, hq, rfl⟩ := List.mem_map.1 hm
    rw [memoryOkay_track] at hr
    simpa [memoryOkay, hr] using hq
  · exact fun hm => List.mem_map.2 ⟨r, hm, by simp [memoryOkay, hr]⟩

/-- Memory answered a held write OKAY: the response is kept in its entry, and its record stays (R61, R99). -/
theorem MemoryPathOk.kept (h : MemoryPathOk p held) (ht : p.table[t] = .used e) (hs : e.state = .inMemory)
    (hr : e.rule = some .held) :
    MemoryPathOk (p.modifyEntry t (fun e => { e with state := .kept })) (held.map (memoryOkay t)) := by
  have hh : t ∉ p.hostQueue := h.not_mem_hostQueue (by rw [ht]; simp [slotState, hs])
  have haq : t ∉ p.answerQueue := h.not_mem_answerQueue (by rw [ht]; simp [slotState, hs])
  have hread : slotReadPlain (.used e) = true := ht ▸ (h.tags t).entry.readPlain
  obtain ⟨r, hm, hrt⟩ := (h.tags t).waits (by rw [ht]; simp [slotHeld, hs, hr])
  rw [modifyEntry_used _ ht]
  refine h.entryWritten rfl ⟨rfl, rfl⟩ ⟨h.hostNodup, fun u _ => .rfl⟩ ⟨h.answerNodup, fun u _ => .rfl⟩
    ⟨?_, fun r hr => mem_memoryOkay hr⟩ ⟨⟨?_, ?_, ?_, ?_⟩, ?_, ?_, ?_, ?_⟩
  · rw [List.map_map, show HeldRecord.track ∘ memoryOkay t = HeldRecord.track from funext memoryOkay_track]
    exact h.trackNodup
  · simp [slotPledged, h.unpledged ht (by rw [hs]; nofun)]
  · simp [slotState]
  · simp [slotState]
  · exact hread
  · simpa [slotState] using hh
  · simpa [slotState] using haq
  · intro x hx hxt
    obtain ⟨y, -, rfl⟩ := List.mem_map.1 hx
    rw [memoryOkay_track] at hxt
    simp [slotHeld, slotState, memoryOkay, hxt]
  · exact fun _ => ⟨memoryOkay t r, List.mem_map_of_mem hm, (memoryOkay_track r).trans hrt⟩

/-- The oldest response is passed back and its entry freed (R102). -/
theorem MemoryPathOk.passedBack {rest : List (Fin 64)} (h : MemoryPathOk p held) (out : Option HostResponse)
    (hq : p.answerQueue = t :: rest) :
    MemoryPathOk { p with table := p.table.set t .free, answerQueue := rest, hostOut := out } held := by
  have hans : slotState p.table[t] = some .answering := (h.tags t).answering.1 (by simp [hq])
  have hnodup := h.answerNodup
  rw [hq, List.nodup_cons] at hnodup
  refine h.entryWritten rfl ⟨rfl, rfl⟩ ⟨h.hostNodup, fun u _ => .rfl⟩ ⟨hnodup.2, fun u hu => by simp [hq, hu]⟩
    ⟨h.trackNodup, fun r _ => .rfl⟩ ⟨⟨nofun, nofun, nofun, rfl⟩, ?_, ?_, ?_, nofun⟩
  · simpa [slotState] using h.not_mem_hostQueue (by rw [hans]; nofun)
  · simpa [slotState] using hnodup.1
  · exact fun r hr e =>
      absurd e (h.no_record (slotHeld_false (by rw [hans]; nofun) (by rw [hans]; nofun)) r hr)

/-! ### Changes that the invariant does not see -/

/-- Two tracking entries that the invariant cannot tell apart: capture link, unsettled mark and stale marks aside, they are
equal in every field that it reads. -/
structure SameView (x y : TrackSlot) : Prop where
  state : slotState y = slotState x
  pledged : slotPledged y = slotPledged x
  answered : slotAnswered y = slotAnswered x
  held : slotHeld y = slotHeld x
  rule : slotRule y = slotRule x
  readPlain : slotReadPlain y = slotReadPlain x

/-- A tracking entry looks like itself. -/
theorem SameView.refl (x : TrackSlot) : SameView x x := ⟨rfl, rfl, rfl, rfl, rfl, rfl⟩

/-- An entry in use with another capture link and another unsettled mark. -/
theorem SameView.marks (e : TrackEntry) (c : Option Nat) (u : Bool) :
    SameView (.used e) (.used { e with capture := c, unsettled := u }) := ⟨rfl, rfl, rfl, rfl, rfl, rfl⟩

/-- A stale tag becomes free (R97, R103). -/
theorem SameView.stale_free (src : Byte) (k : Bool) : SameView (.stale src k) .free := ⟨rfl, rfl, rfl, rfl, rfl, rfl⟩

/-- The invariant outlives a change of the tracking entries that it does not see, and any change of the internal source
that is right in itself. -/
theorem MemoryPathOk.sameView (h : MemoryPathOk p held)
    (hqueues : q.hostQueue = p.hostQueue ∧ q.answerQueue = p.answerQueue)
    (hview : ∀ t : Fin 64, SameView p.table[t] q.table[t]) (hown : OwnOk q) : MemoryPathOk q held := by
  refine ⟨hqueues.1 ▸ h.hostNodup, hqueues.2 ▸ h.answerNodup, h.trackNodup, fun t => ?_, hown⟩
  obtain ⟨⟨pledged, answered, undecided, readPlain⟩, queued, answering, record, waits⟩ := h.tags t
  obtain ⟨hs, hp, ha, hh, hr, hk⟩ := hview t
  rw [hqueues.1, hqueues.2]
  refine ⟨⟨?_, ?_, ?_, ?_⟩, ?_, ?_, ?_, ?_⟩
  · rwa [hp, hs]
  · rwa [hs, ha]
  · rwa [hs, hr]
  · rwa [hk]
  · rwa [hs]
  · rwa [hs]
  · rwa [hh, hs]
  · rwa [hh]

/-- A tracking table whose every entry is changed in a way that the invariant does not see. -/
theorem MemoryPathOk.tableMapped (h : MemoryPathOk p held) (f : TrackSlot → TrackSlot) (hf : ∀ x, SameView x (f x)) :
    MemoryPathOk { p with table := p.table.map f } held :=
  h.sameView ⟨rfl, rfl⟩ (fun t => by simpa using hf p.table[t]) ⟨h.own.nodup, h.own.waiting⟩

/-- One tracking entry is changed in a way that the invariant does not see. -/
theorem MemoryPathOk.entryUnseen {x : TrackSlot} (h : MemoryPathOk p held) (hx : SameView p.table[t] x) :
    MemoryPathOk { p with table := p.table.set t x } held := by
  refine h.sameView ⟨rfl, rfl⟩ (fun u => ?_) ⟨h.own.nodup, h.own.waiting⟩
  by_cases hu : u = t
  · subst hu
    rwa [getElem_set_same]
  · rw [getElem_set_other _ _ hu]
    exact .refl _

/-- The capture links dropped (R99, R100). -/
theorem MemoryPathOk.dropCaptures (h : MemoryPathOk p held) : MemoryPathOk p.dropCaptures held :=
  h.tableMapped _ fun x => by
    cases x with
    | used e => exact .marks e none e.unsettled
    | free => exact .refl _
    | stale _ _ => exact .refl _

/-- The writes that wait for their forward event made unsettled (R82). -/
theorem MemoryPathOk.unsettle (h : MemoryPathOk p held) : MemoryPathOk p.unsettle held :=
  h.tableMapped _ fun x => by
    cases x with
    | used e => exact .marks e e.capture _
    | free => exact .refl _
    | stale _ _ => exact .refl _

/-- The stale marks of KEPT entries cleared at the release of RST_N (R103). -/
theorem MemoryPathOk.clearKept (h : MemoryPathOk p held) :
    MemoryPathOk { p with table := p.table.map Machine.clearKept } held :=
  h.tableMapped _ fun x => by
    cases x with
    | used e => exact .refl _
    | free => exact .refl _
    | stale src k =>
      cases k with
      | true => exact .stale_free src true
      | false => exact .refl _

/-- The capture link of one write dropped (R99). -/
theorem MemoryPathOk.uncaptured (h : MemoryPathOk p held) (ht : p.table[t] = .used e) :
    MemoryPathOk (p.modifyEntry t (fun e => { e with capture := none })) held := by
  rw [modifyEntry_used _ ht]
  exact h.entryUnseen (ht ▸ .marks e none e.unsettled)

/-! ### The internal source -/

/-- A change of the internal source alone. -/
theorem MemoryPathOk.ownChanged (h : MemoryPathOk p held)
    (hsame : q.table = p.table ∧ q.hostQueue = p.hostQueue ∧ q.answerQueue = p.answerQueue) (hown : OwnOk q) :
    MemoryPathOk q held :=
  h.sameView hsame.2 (fun _ => hsame.1 ▸ .refl _) hown

/-- A tag that does not wait for its grant becomes free (R97, R101, R103). -/
theorem OwnOk.freed {u : Fin 8} (h : OwnOk p) (hu : ownWaiting p.own[u] = false) : OwnOk (p.freeOwn u) := by
  refine ⟨h.nodup, fun v => ?_⟩
  by_cases hv : v = u
  · subst hv
    simp only [Path.freeOwn, getElem_set_same]
    rw [h.waiting, hu]
    rfl
  · simp only [Path.freeOwn, getElem_set_other _ _ hv]
    exact h.waiting v

/-- The oldest request of the internal source is granted (R94, R95). -/
theorem OwnOk.granted {u : Fin 8} {us : List (Fin 8)} (h : OwnOk p) (r : OwnRequest) (c : Claimant)
    (out : Option MemRequest) (hq : p.ownQueue = u :: us) :
    OwnOk { p with own := p.own.set u (.granted r), ownQueue := us, lastGranted := c, memOut := out } := by
  have hn := h.nodup
  rw [hq, List.nodup_cons] at hn
  refine ⟨hn.2, fun v => ?_⟩
  by_cases hv : v = u
  · subst hv
    simp [hn.1, ownWaiting]
  · simp only [getElem_set_other _ _ hv]
    rw [← h.waiting, hq, List.mem_cons, or_iff_right hv]

/-- A request handed to the internal source under a free tag (R94). -/
theorem OwnOk.handOne {u : Fin 8} (h : OwnOk p) (r : OwnRequest) (hu : p.own[u] = .free) :
    OwnOk (p.handOne (u, r)) := by
  have hm : u ∉ p.ownQueue := by
    rw [h.waiting, hu]
    nofun
  refine ⟨nodup_append_singleton h.nodup hm, fun v => ?_⟩
  by_cases hv : v = u
  · subst hv
    simp [Path.handOne, ownWaiting]
  · simp only [Path.handOne, getElem_set_other _ _ hv]
    rw [← h.waiting, List.mem_append, List.mem_singleton, or_iff_left hv]

/-- Requests handed over one after another, each under a free tag of its own (R94). -/
theorem OwnOk.handList (l : List (Fin 8 × OwnRequest)) (h : OwnOk p) (hn : (l.map Prod.fst).Nodup)
    (hfree : ∀ x ∈ l, p.own[x.1] = .free) : OwnOk (l.foldl Path.handOne p) := by
  induction l generalizing p with
  | nil => exact h
  | cons x l ih =>
    obtain ⟨hx, hn'⟩ := List.nodup_cons.1 hn
    refine ih (h.handOne x.2 (hfree x List.mem_cons_self)) hn' fun y hy => ?_
    have hne : y.1 ≠ x.1 := fun e => hx (e ▸ List.mem_map_of_mem hy)
    exact (getElem_set_other _ _ hne).trans (hfree y (List.mem_cons_of_mem _ hy))

/-- Requests handed over together take free tags, each its own (R94). -/
theorem OwnOk.handOver (rs : List OwnRequest) (h : OwnOk p) : OwnOk (p.handOver rs) := by
  have hsub : ((p.freeOwnTags.zip rs).map Prod.fst).Sublist p.freeOwnTags := by
    rw [List.zip_eq_zip_take_min, List.map_fst_zip (by simp)]
    exact List.take_sublist _ _
  refine h.handList _ (hsub.nodup ((List.nodup_finRange 8).filter _)) fun x hx => ?_
  simpa using (List.mem_filter.1 (hsub.subset (List.mem_map_of_mem hx))).2

/-- Requests of the part's own handed over keep the invariant (R94). -/
theorem MemoryPathOk.handOver (rs : List OwnRequest) (h : MemoryPathOk p held) : MemoryPathOk (p.handOver rs) held := by
  have hf := Path.handOver_frame rs p
  exact h.ownChanged ⟨by rw [hf], by rw [hf], by rw [hf]⟩ (h.own.handOver rs)

/-! ### Releases of held writes -/

/-- The held list without the records of some tracking entries. -/
def unreleased (rs held : List HeldRecord) : List HeldRecord :=
  held.filter (fun r => decide (r.track ∉ rs.map HeldRecord.track))

/-- Releases of the records of a list, one after another, take them out of the held list, if each release does so for its
own record (R62, R63, R100). -/
theorem MemoryPathOk.releases (release : Path → HeldRecord → Path)
    (hone : ∀ (p : Path) (held : List HeldRecord) (r : HeldRecord), MemoryPathOk p held → r ∈ held →
      MemoryPathOk (release p r) (held.filter (fun q => q.track ≠ r.track)))
    (rs : List HeldRecord) (h : MemoryPathOk p held) (hn : (rs.map HeldRecord.track).Nodup) (hsub : ∀ r ∈ rs, r ∈ held) :
    MemoryPathOk (rs.foldl release p) (unreleased rs held) := by
  induction rs generalizing p held with
  | nil =>
    have hnil : unreleased [] held = held := List.filter_eq_self.2 fun _ _ => decide_eq_true List.not_mem_nil
    rwa [hnil]
  | cons r rs ih =>
    obtain ⟨hr, hn'⟩ := List.nodup_cons.1 hn
    have hrest : unreleased (r :: rs) held = unreleased rs (held.filter (fun q => q.track ≠ r.track)) := by
      simp [unreleased, List.filter_filter, Bool.and_comm]
    rw [hrest]
    refine ih (hone p held r h (hsub r List.mem_cons_self)) hn' fun q hq => ?_
    have hne : q.track ≠ r.track := fun e => hr (e ▸ List.mem_map_of_mem hq)
    exact List.mem_filter.2 ⟨hsub q (List.mem_cons_of_mem _ hq), by simpa using hne⟩

/-- A held record's tracking entry is in use and waits on it (R57, R88). -/
theorem MemoryPathOk.record_used (h : MemoryPathOk p held) {r : HeldRecord} (hr : r ∈ held) :
    ∃ e, p.table[r.track] = .used e ∧ e.state = (if r.memOkay then .kept else .inMemory)
      ∧ (r.memOkay = false → e.rule = some .held) := by
  obtain ⟨hheld, hstate⟩ := (h.tags r.track).record r hr rfl
  cases hx : p.table[r.track] with
  | used e =>
    rw [hx] at hheld hstate
    have hs : e.state = if r.memOkay then .kept else .inMemory := by simpa [slotState] using hstate
    exact ⟨e, rfl, hs, fun hm => by simpa [slotHeld, hs, hm] using hheld⟩
  | free => rw [hx] at hheld; cases hheld
  | stale _ _ => rw [hx] at hheld; cases hheld

/-- A held write's response is decided, whether memory has answered or not (R62, R63). -/
theorem MemoryPathOk.heldAnswered (h : MemoryPathOk p held) (a : HostAnswer) {r : HeldRecord} (hr : r ∈ held) :
    MemoryPathOk (p.answer r.track a) (held.filter (fun q => q.track ≠ r.track)) := by
  obtain ⟨e, hused, hs, -⟩ := h.record_used hr
  exact h.answered a hused (by rw [hs]; split <;> nofun) (by rw [hs]; split <;> nofun)

/-- A held write released by policy (R63, R64). -/
theorem MemoryPathOk.releasedOne (h : MemoryPathOk p held) {r : HeldRecord} (hr : r ∈ held) :
    MemoryPathOk (releaseOne p r) (held.filter (fun q => q.track ≠ r.track)) := by
  unfold releaseOne
  split
  · exact h.heldAnswered _ hr
  · rename_i hm
    obtain ⟨e, hused, hs, hrule⟩ := h.record_used hr
    refine h.ruleDecided hused (by simpa [hm] using hs) (hrule (by simpa using hm)) ?_
    cases r.policy <;> nofun

/-- Every held write released by policy: no record remains (R63). -/
theorem MemoryPathOk.releasedAll (h : MemoryPathOk p held) : MemoryPathOk (held.foldl releaseOne p) [] := by
  have hr := h.releases releaseOne (fun _ _ _ h hr => h.releasedOne hr) held h.trackNodup fun _ hr => hr
  have hnone : unreleased held held = [] := by
    simpa [unreleased] using fun (r : HeldRecord) hr => ⟨r, hr, rfl⟩
  rwa [hnone] at hr

/-- Two records of a held list that name the same tracking entry are one record (R57). -/
theorem record_unique {q r : HeldRecord} (hn : (held.map HeldRecord.track).Nodup) (hq : q ∈ held) (hr : r ∈ held)
    (h : q.track = r.track) : q = r := by
  induction held with
  | nil => cases hq
  | cons x rs ih =>
    obtain ⟨hx, hn'⟩ := List.nodup_cons.1 hn
    rcases List.mem_cons.1 hq with rfl | hq' <;> rcases List.mem_cons.1 hr with rfl | hr'
    · rfl
    · exact absurd (List.mem_map_of_mem hr') (h ▸ hx)
    · exact absurd (List.mem_map_of_mem hq') (h ▸ hx)
    · exact ih hn' hq' hr'

/-- The records that some tracking entries keep are those that were not selected, since each entry has one record (R57). -/
theorem unreleased_filter (hn : (held.map HeldRecord.track).Nodup) (f : HeldRecord → Bool) :
    unreleased (held.filter f) held = held.filter (fun r => !f r) := by
  refine List.filter_congr fun r hr => ?_
  have hiff : r.track ∈ (held.filter f).map HeldRecord.track ↔ f r = true := by
    constructor
    · intro hm
      obtain ⟨q, hq, e⟩ := List.mem_map.1 hm
      obtain ⟨hq, hf⟩ := List.mem_filter.1 hq
      exact record_unique hn hq hr e ▸ hf
    · exact fun hf => List.mem_map_of_mem (List.mem_filter.2 ⟨hr, hf⟩)
  cases hf : f r <;> simp [hiff, hf]

/-- Selected held writes released with one answer (R62). -/
theorem MemoryPathOk.releasedSelected (h : MemoryPathOk p held) (a : HostAnswer) (f : HeldRecord → Bool) :
    MemoryPathOk ((held.filter f).foldl (fun p r => p.answer r.track a) p) (held.filter (fun r => !f r)) := by
  rw [← unreleased_filter h.trackNodup f]
  exact h.releases _ (fun _ _ _ h hr => h.heldAnswered a hr) _ (nodup_tracks_filter f h.trackNodup)
    fun _ hr => (List.mem_filter.1 hr).1

end

end Sys2Proof.Proofs
end

section
/-! PROOFS. What the operations that several commands share do to the invariant of the memory path: most of them change
neither the path nor the held list, and the rest empty the journal, remove acknowledged entries or hand requests over. -/
namespace Sys2Proof.Proofs

open Sys2Proof.Machine Sys2Proof.Safety

/-! ### Operations that change neither the memory path nor the held list -/

/-- What the invariant of the memory path reads of the part. -/
def pathSide (s : State) : Path × List HeldRecord :=
  (s.path, s.held)

/-- A part with the same memory path and the same held list keeps the invariant. -/
theorem pathOk_of_pathSide {s t : State} (h : pathSide t = pathSide s) (hs : PathOk s) : PathOk t := by
  obtain ⟨hp, hh⟩ := Prod.mk.inj h
  rw [pathOk_iff, hp, hh]
  exact (pathOk_iff s).1 hs

/-- A line replaced (R142). -/
theorem pathSide_withLine (l : LineId) (x : Line) (s : State) : pathSide (withLine l x s) = pathSide s := by
  cases l <;> rfl

/-- A report to the exception list (R176). -/
theorem pathSide_report (k : ExceptionKind) (src : Option Byte) (a : LineAddr) (i : Option (Fin 32)) (s : State) :
    pathSide (report k src a i s) = pathSide s := by
  rw [report_frame]; rfl

/-- A frame under collection abandoned (R140). -/
theorem pathSide_abandonFrame (l : LineId) (s : State) : pathSide (abandonFrame l s) = pathSide s := by
  unfold abandonFrame
  split <;> exact pathSide_withLine ..

/-- The end of a page's copy (R40). -/
theorem pathSide_endCopy (c : Copying) (s : State) : pathSide (endCopy c s) = pathSide s := by
  unfold endCopy
  split <;> rfl

/-- A chunk read that faults (R41). -/
theorem pathSide_chunkFault (r : Reservation) (a : LineAddr) (s : State) : pathSide (chunkFault r a s) = pathSide s :=
  pathSide_report ..

/-- The PAGE entry of a chunk appended, and the sweep advanced (R11, R39, R40). -/
theorem pathSide_completeChunk (r : Reservation) (s : State) : pathSide (completeChunk r s) = pathSide s := by
  unfold completeChunk
  dsimp only
  split
  · split
    · exact pathSide_endCopy ..
    · rfl
  · rfl

/-- The last line read of a chunk answered (R8, R39, R41). -/
theorem pathSide_endChunk (r : Reservation) (s : State) : pathSide (endChunk r s) = pathSide s := by
  unfold endChunk
  split
  · rfl
  · split
    · exact pathSide_chunkFault ..
    · exact pathSide_completeChunk ..

/-- A line read of a chunk answered (R8, R101). -/
theorem pathSide_sweepAnswered (line : Fin 4) (st : MemStatus) (data : List Byte) (s : State) :
    pathSide (sweepAnswered line st data s) = pathSide s := by
  unfold sweepAnswered
  split
  · rfl
  · dsimp only
    split
    · rfl
    · exact pathSide_endChunk ..

/-- A retirement (R163, R164). -/
theorem pathSide_retire (f : QueuedFrame) (rest : List QueuedFrame) (s : State) :
    pathSide (retire f rest s) = pathSide s := by
  rw [retire_frame]; rfl

/-- A HELLO judged (R151, R152). -/
theorem pathSide_judgeHello (n : Byte) (h : HelloBody) (s : State) : pathSide (judgeHello n h s) = pathSide s := by
  rw [judgeHello_frame]; rfl

/-- An apply write answered (R162, R168). -/
theorem pathSide_applyAnswered (a : LineAddr) (st : MemStatus) (s : State) :
    pathSide (applyAnswered a st s) = pathSide s := by
  have hstarted : ∀ s : State, pathSide (retireStarted s) = pathSide s := by
    intro s
    unfold retireStarted
    split
    · split
      · exact pathSide_retire ..
      · rfl
    · rfl
  unfold applyAnswered
  split
  · rfl
  · dsimp only
    split
    · split
      · rw [applyFault_frame]; rfl
      · exact hstarted _
    · rfl

/-- The answer to a request of the part's own, told to the block that handed it over (R101). -/
theorem pathSide_ownAnswered (r : OwnRequest) (st : MemStatus) (data : List Byte) (s : State) :
    pathSide (ownAnswered r st data s) = pathSide s := by
  unfold ownAnswered
  split
  · exact pathSide_sweepAnswered ..
  · exact pathSide_applyAnswered ..

/-- An in-order frame taken by the replica apply unit (R155, R156, R158). -/
theorem pathSide_inOrder (n : SeqNum) (b : SeqBody) (s : State) : pathSide (inOrder n b s) = pathSide s := by
  have henqueue : ∀ i, pathSide (enqueue n b i s) = pathSide s := by
    intro i
    unfold enqueue
    split <;> rfl
  unfold inOrder
  split
  · exact henqueue _
  · split
    · exact henqueue _
    · rfl

/-- What a stopped replica side changes (R148, R149). -/
theorem pathSide_stopReplica (s : State) : pathSide (stopReplica s) = pathSide s := by
  unfold stopReplica
  split <;> rfl

/-! ### Effects and steps that keep the invariant -/

/-- An effect that keeps the invariant of the memory path. -/
def Keeps (f : State → State) : Prop :=
  ∀ s : State, PathOk s → PathOk (f s)

/-- A command's meaning that keeps the invariant of the memory path. -/
def StepKeeps (r : State → Result) : Prop :=
  ∀ s t : State, PathOk s → r s = .next t → PathOk t

/-- An effect on other blocks only. -/
theorem Keeps.of_pathSide {f : State → State} (h : ∀ s, pathSide (f s) = pathSide s) : Keeps f :=
  fun s => pathOk_of_pathSide (h s)

/-- An effect under a condition. -/
theorem Keeps.when {f : State → State} (h : Keeps f) (c : State → Prop) [∀ s, Decidable (c s)] :
    Keeps (fun s => if c s then f s else s) := by
  intro s hs
  dsimp only
  split
  · exact h s hs
  · exact hs

/-- A step that carries its effect out in every phase. -/
theorem Keeps.next {f : State → State} (h : Keeps f) : StepKeeps (fun s => .next (f s)) := by
  intro s t hs ht
  cases ht
  exact h s hs

/-- A step of the running part (R104). -/
theorem Keeps.live {f : State → State} (h : Keeps f) : StepKeeps (live f) :=
  (h.when (fun s => s.phase = .running)).next

/-- A delivery handled in the part without it (R142). -/
theorem Keeps.takeDelivery (l : LineId) {handle : Delivery → State → Option State}
    (h : ∀ d s t, PathOk s → handle d s = some t → PathOk t) : Keeps (takeDelivery l handle) := by
  intro s hs
  rcases takeDelivery_cases l handle s with ⟨-, heq⟩ | ⟨d, rest, -, ⟨-, heq⟩ | ⟨t, ht, heq⟩⟩
  · rwa [heq]
  · rwa [heq]
  · rw [heq]
    exact h d _ t (pathOk_of_pathSide (pathSide_withLine ..) hs) ht

/-- A mirror-link frame discarded or taken (R111, R142). -/
theorem Keeps.takeFrame (f : LinkFrame) {act : State → State} (h : Keeps act) : Keeps (takeFrame f act) := by
  have hjudged : Keeps (judged f act) := by
    intro s hs
    unfold judged
    split
    · exact hs
    · exact h s hs
  refine .takeDelivery .link fun d s t hs ht => ?_
  split at ht
  · cases ht
    exact hjudged s hs
  · cases ht

/-- A service frame dropped without a free place, and otherwise handled (R189). -/
theorem Keeps.withPlace {act : State → State} (h : Keeps act) : Keeps (withPlace act) := by
  intro s hs
  unfold Machine.withPlace
  split
  · exact hs
  · exact h s hs

/-- A command answered BUSY while the slot is occupied, and otherwise carried out (R190). -/
theorem Keeps.throughSlot (code : Nat) {act : State → State} (h : Keeps act) : Keeps (throughSlot code act) := by
  intro s hs
  unfold Machine.throughSlot
  split
  · exact h s hs
  · exact hs

/-- A command frame taken by the service port (R142, R187). -/
theorem Keeps.takeCommand (c : Instr) {act : State → State} (h : Keeps act) : StepKeeps (takeCommand c act) := by
  refine Keeps.live (.takeDelivery .service fun d s t hs ht => ?_)
  split at ht
  · cases ht
    exact h s hs
  · cases ht

/-- A command served by the port and the slot (R189, R190). -/
theorem Keeps.serve (c : Instr) (code : Nat) {act : State → State} (h : Keeps act) : StepKeeps (serve c code act) :=
  (h.throughSlot code).withPlace.takeCommand c

/-- A command whose effect is on other blocks only, its response among them. -/
theorem serve_keeps_of_pathSide (c : Instr) (code : Nat) {act : State → State}
    (h : ∀ s, pathSide (act s) = pathSide s) : StepKeeps (serve c code act) :=
  (Keeps.of_pathSide h).serve c code

/-- A step of the running part whose effect is on other blocks only. -/
theorem live_keeps_of_pathSide {f : State → State} (h : ∀ s, pathSide (f s) = pathSide s) : StepKeeps (live f) :=
  (Keeps.of_pathSide h).live

/-- A step of the running part whose effect, under its condition, is on other blocks only. -/
theorem live_when_keeps_of_pathSide (f : State → State) (c : State → Prop) [∀ s, Decidable (c s)]
    (h : ∀ s, pathSide (f s) = pathSide s) : StepKeeps (live (fun s => if c s then f s else s)) :=
  ((Keeps.of_pathSide h).when c).live

/-! ### The journal emptied, sessions lost and entries acknowledged -/

/-- The path and the held list after the journal is emptied as a whole (R23, R24). -/
theorem emptied_keeps {s t : State} (h : pathSide t = (releasedPath s, [])) (hs : PathOk s) : PathOk t := by
  obtain ⟨hp, hh⟩ := Prod.mk.inj h
  rw [pathOk_iff, hp, hh]
  exact ((pathOk_iff s).1 hs).releasedAll.dropCaptures

/-- STOP NOW in the primary role (R48). -/
theorem stopPrimary_keeps : Keeps stopPrimary :=
  fun _ => emptied_keeps (by rw [stopPrimary_frame]; rfl)

/-- A session lost in UP (R46, R47, R52). -/
theorem sessionLost_keeps (cause : LossCause) : Keeps (sessionLost cause) := by
  intro s hs
  rcases sessionLost_cases cause s with ⟨-, h⟩ | ⟨-, h⟩ | ⟨-, h⟩
  · rw [h, convert_frame]
    exact emptied_keeps rfl hs
  · rw [h, stopMirror_frame]
    exact emptied_keeps rfl hs
  · rwa [h]

/-- The retry counter compared with its limit (R127). -/
theorem checkRetry_keeps : Keeps checkRetry :=
  (sessionLost_keeps _).when _

/-- A frame out of range (R124). -/
theorem protocolLoss_keeps : Keeps protocolLoss :=
  fun _ hs => sessionLost_keeps .protocol _ hs

/-- The oldest entries removed on an acknowledgement, with the held writes among them released (R21, R62). -/
theorem removeAcked_keeps (d : Nat) : Keeps (removeAcked d) := by
  intro s hs
  rw [removeAcked_eq, pathOk_iff]
  exact ((pathOk_iff s).1 hs).releasedSelected _ _

/-- An ACK in range or out of it (R124, R125). -/
theorem ackArrived_keeps (n : SeqNum) : Keeps (ackArrived n) := by
  intro s hs
  unfold ackArrived
  dsimp only
  split
  · exact protocolLoss_keeps s hs
  · split
    · exact hs
    · exact removeAcked_keeps _ s hs

/-- A NAK in range or out of it (R124, R126). -/
theorem nakArrived_keeps (n : SeqNum) : Keeps (nakArrived n) := by
  intro s hs
  unfold nakArrived
  dsimp only
  split
  · exact protocolLoss_keeps s hs
  · refine checkRetry_keeps _ ?_
    split
    · exact hs
    · exact removeAcked_keeps _ s hs

/-- A BYE of the current session (R117, R128). -/
theorem peerLeft_keeps (reason : ByeReason) : Keeps (peerLeft reason) := by
  intro s hs
  unfold peerLeft
  split
  · exact hs
  · exact sessionLost_keeps _ s hs
  · exact hs

/-- The hold timer's expiry (R122). -/
theorem holdExpired_keeps : Keeps holdExpired := by
  intro s hs
  unfold holdExpired
  split
  · exact hs
  · exact sessionLost_keeps _ s hs
  · exact hs

/-- The part's own side stopped by a soft reset (R202). -/
theorem softStop_keeps : Keeps softStop := by
  intro s hs
  unfold softStop
  split
  · exact hs
  · split
    · exact stopPrimary_keeps s hs
    · exact pathOk_of_pathSide (pathSide_stopReplica s) hs

/-! ### Waiting writes made unsettled -/

/-- Waiting writes made unsettled, whatever changes in other blocks (R82). -/
theorem unsettled_keeps {s t : State} (h : pathSide t = (s.path.unsettle, s.held)) (hs : PathOk s) : PathOk t := by
  obtain ⟨hp, hh⟩ := Prod.mk.inj h
  rw [pathOk_iff, hp, hh]
  exact ((pathOk_iff s).1 hs).unsettle

/-- A change of role (R82, R170). -/
theorem changeRole_keeps (role : Role) : Keeps (changeRole role) := by
  intro s hs
  cases role <;> exact unsettled_keeps rfl hs

/-- A change of the region table (R79, R82). -/
theorem changeRegion_keeps (i : Fin 32) (new : Option Region) : Keeps (changeRegion i new) := by
  intro s hs
  unfold changeRegion
  dsimp only
  split
  · exact unsettled_keeps rfl hs
  · exact hs

end Sys2Proof.Proofs
end

section
/-! PROOFS. The steps that change the memory path keep its invariant: the take, the grant, memory responses, responses passed
back, requests handed over, and resets (R57, R61, R88, R93, R94, R96, R99, R102). -/
namespace Sys2Proof.Proofs

open Sys2Proof.Machine Sys2Proof.Safety

/-! ### The take -/

/-- A head of intake taken into a free tracking entry: refused, or queued (R75, R91). -/
theorem takeInto_keeps {t : Fin 64} (req : HostRequest) {s : State} (ht : s.path.table[t] = .free) (hs : PathOk s) :
    PathOk (takeInto t req s) := by
  have hok := (pathOk_iff s).1 hs
  have hrefused : ∀ cls, PathOk (refuseTake t (newEntry req cls s.role false) s) := fun _ =>
    (pathOk_iff _).2 (hok.refused _ ht rfl rfl)
  have hqueued : ∀ cls pledge, (pledge = true → req.kind = .write) →
      PathOk (queueTake t (newEntry req cls s.role pledge) s) := fun _ _ hk =>
    (pathOk_iff _).2 (hok.taken ht rfl rfl hk)
  unfold takeInto
  dsimp only
  split
  · exact pathOk_of_pathSide (pathSide_report ..) (hrefused _)
  · split
    · unfold reportRefusal
      split
      · exact pathOk_of_pathSide (pathSide_report ..) (hrefused _)
      · exact pathOk_of_pathSide (pathSide_report ..) (hrefused _)
      · exact hrefused _
      · exact hrefused _
    · split
      · rename_i hpledged
        refine pathOk_of_pathSide rfl (hqueued _ true fun _ => ?_)
        unfold pledgedTake at hpledged
        split at hpledged
        · assumption
        · cases hpledged
      · exact hqueued _ false nofun

/-- The head of intake taken if it can be (R90). -/
theorem takeHead_keeps : Keeps takeHead := by
  intro s hs
  unfold takeHead
  split
  · rename_i req rest t hi hf
    split
    · exact hs
    · exact takeInto_keeps req (freeEntry_free hf) hs
  · exact hs

/-- HOST_REQUEST_TAKE (R90, R91, R104). -/
theorem execHostRequestTake_keeps (presented : Option HostRequest) : StepKeeps (execHostRequestTake presented) := by
  refine Keeps.next fun s hs => ?_
  exact takeHead_keeps.when (fun s => s.phase = .running) (s.withPath (s.path.present presented)) hs

/-! ### The grant -/

/-- The capture decision and the held list: a write under the rule HELD joins it with its memory status absent, and no other
write changes it (R30 to R32, R60). -/
theorem captureWrite_held (t : Fin 64) (e : TrackEntry) (s : State) :
    HeldJoined t (some (captureWrite t e s).rule) s.held (captureWrite t e s).state.held := by
  have hmark : ∀ p, HeldJoined t (some (markInstead e p s).rule) s.held (markInstead e p s).state.held := by
    intro p
    cases p <;> exact .inl ⟨nofun, rfl⟩
  have hstream : ∀ i p,
      HeldJoined t (some (captureStreaming t e i p s).rule) s.held (captureStreaming t e i p s).state.held := by
    intro i p
    unfold captureStreaming
    split
    · split
      · exact .inl ⟨nofun, rfl⟩
      · exact hmark p
    · split
      · exact .inr ⟨rfl, _, rfl, rfl, rfl⟩
      · exact hmark p
  have hsignal : ∀ i, HeldJoined t (some (captureMark t e i s).rule) s.held (captureMark t e i s).state.held := by
    intro i
    unfold captureMark
    split <;> exact .inl ⟨nofun, rfl⟩
  unfold captureWrite
  split
  · unfold captureMirror
    split
    · exact .inl ⟨nofun, rfl⟩
    · exact hmark _
    · exact hmark _
    · exact hstream _ _
    · exact hstream _ _
    · exact .inl ⟨nofun, rfl⟩
  · unfold captureSignal
    split
    · split
      · exact .inl ⟨nofun, rfl⟩
      · exact .inl ⟨nofun, rfl⟩
      · exact .inl ⟨nofun, rfl⟩
      · exact hsignal _
      · exact hsignal _
      · exact .inl ⟨nofun, rfl⟩
    · exact .inl ⟨nofun, by rw [report_frame]⟩
  · exact .inl ⟨nofun, rfl⟩

/-- The oldest request of the host queue granted (R95, R96). -/
theorem grantHost_keeps {t : Fin 64} {ts : List (Fin 64)} {s : State} (hq : s.path.hostQueue = t :: ts)
    (hs : PathOk s) : PathOk (grantHost t ts s) := by
  have hok := (pathOk_iff s).1 hs
  cases ht : s.path.table[t] with
  | used e =>
    cases hk : e.req.kind with
    | read =>
      have hplain := (hok.tags t).entry.readPlain
      rw [ht] at hplain
      obtain ⟨hp, hr⟩ : e.pledge = false ∧ e.rule = none := by simpa [slotReadPlain, hk] using hplain
      simp only [grantHost, ht, forward, hk]
      rw [pathOk_iff]
      exact hok.forwarded (e' := { e with state := .inMemory }) hq rfl hp (fun _ => hr) (.inl ⟨by rw [hr]; nofun, rfl⟩)
    | write =>
      rw [grantHost_write ht hk, pathOk_iff]
      have hj := captureWrite_held t e (givePledge e s)
      rw [show (givePledge e s).held = s.held by rw [givePledge_frame]] at hj
      exact hok.forwarded hq rfl rfl (fun h => by rw [hk] at h; cases h) hj
  | free => simpa only [grantHost, ht] using hs
  | stale _ _ => simpa only [grantHost, ht] using hs

/-- The oldest request of the internal source granted (R95, R96). -/
theorem grantOwn_keeps {u : Fin 8} {us : List (Fin 8)} {s : State} (hq : s.path.ownQueue = u :: us) (hs : PathOk s) :
    PathOk (grantOwn u us s) := by
  have hok := (pathOk_iff s).1 hs
  unfold grantOwn
  split
  · rw [pathOk_iff]
    exact hok.ownChanged ⟨rfl, rfl, rfl⟩ (hok.own.granted _ _ _ hq)
  · exact hs
  · exact hs
  · exact hs

/-- The arbiter's choice (R95). -/
theorem arbitrate_keeps : Keeps arbitrate := by
  intro s hs
  unfold arbitrate
  split
  · exact hs
  · exact grantHost_keeps ‹_› hs
  · exact grantOwn_keeps ‹_› hs
  · split
    · exact grantOwn_keeps ‹_› hs
    · exact grantHost_keeps ‹_› hs

/-! ### Memory responses and responses passed back -/

/-- What stands when the response to a forwarded WRITE is decided: the invariant, and the entry still IN_MEMORY under its
completion rule (R88, R99). -/
def WriteWaits (t : Fin 64) (rule : CompletionRule) (s : State) : Prop :=
  PathOk s ∧ ∃ e, s.path.table[t] = .used e ∧ e.state = .inMemory ∧ (rule = .held ↔ e.rule = some .held)

/-- The journal is told of the answer to a captured write, and its capture link dropped (R13 to R15, R99). -/
theorem tellJournal_waits {t : Fin 64} {e : TrackEntry} {rule : CompletionRule} (st : MemStatus) {s : State}
    (hs : PathOk s) (ht : s.path.table[t] = .used e) (hm : e.state = .inMemory)
    (hr : rule = .held ↔ e.rule = some .held) : WriteWaits t rule (tellJournal t e st s) := by
  unfold tellJournal
  split
  · exact ⟨hs, e, ht, hm, hr⟩
  · refine ⟨(pathOk_iff _).2 (((pathOk_iff s).1 hs).uncaptured ht), { e with capture := none }, ?_, hm, hr⟩
    show (s.path.modifyEntry t _).table[t] = _
    rw [modifyEntry_used _ ht, getElem_set_same]

/-- The response to a WRITE decided by its completion rule (R61, R99). -/
theorem decideWrite_keeps {t : Fin 64} {rule : CompletionRule} (st : MemStatus) {s : State} (h : WriteWaits t rule s) :
    PathOk (decideWrite t rule st s) := by
  obtain ⟨hs, e, ht, hm, hr⟩ := h
  have hok := (pathOk_iff s).1 hs
  unfold decideWrite
  split
  · rw [pathOk_iff]
    exact hok.answered_unheld _ ht hm (fun h => nomatch hr.2 h)
  · rw [pathOk_iff]
    exact hok.answered_unheld _ ht hm (fun h => nomatch hr.2 h)
  · rw [pathOk_iff]
    exact hok.kept ht hm (hr.1 rfl)
  · rw [pathOk_iff]
    exact hok.answered _ ht (by rw [hm]; nofun) (by rw [hm]; nofun)

/-- The response to a forwarded host request (R98, R99). -/
theorem hostAnswered_keeps {t : Fin 64} {e : TrackEntry} (st : MemStatus) (data : List Byte) {s : State}
    (hs : PathOk s) (ht : s.path.table[t] = .used e) (hm : e.state = .inMemory) :
    PathOk (hostAnswered t e st data s) := by
  have hok := (pathOk_iff s).1 hs
  unfold hostAnswered
  split
  · rename_i hk
    rw [pathOk_iff]
    exact hok.answered_unheld _ ht hm (by rw [hok.read_plain ht hk]; nofun)
  · refine decideWrite_keeps st (tellJournal_waits st hs ht hm ?_)
    cases e.rule <;> simp

/-- A response with a host source (R97, R103). -/
theorem matchHost_keeps (source : Byte) (t : Fin 64) (st : MemStatus) (data : List Byte) :
    Keeps (matchHost source t st data) := by
  intro s hs
  unfold matchHost
  split
  · rename_i e ht
    split
    · rename_i hm
      exact hostAnswered_keeps st data hs ht hm.1
    · exact hs
  · rename_i src k ht
    split
    · rw [pathOk_iff]
      exact ((pathOk_iff s).1 hs).entryUnseen (ht ▸ .stale_free src k)
    · exact hs
  · exact hs

/-- A response with source 255 (R97, R101, R103). -/
theorem matchOwn_keeps (tag : Fin 64) (st : MemStatus) (data : List Byte) : Keeps (matchOwn tag st data) := by
  intro s hs
  have hok := (pathOk_iff s).1 hs
  have hfreed : ∀ u : Fin 8, ownWaiting s.path.own[u] = false → PathOk (s.withPath (s.path.freeOwn u)) :=
    fun _ hu => (pathOk_iff _).2 (hok.ownChanged ⟨rfl, rfl, rfl⟩ (hok.own.freed hu))
  unfold matchOwn
  split
  · exact hs
  · split
    · rename_i hr
      exact pathOk_of_pathSide (pathSide_ownAnswered ..) (hfreed _ (by rw [hr]; rfl))
    · rename_i hr
      exact hfreed _ (by rw [hr]; rfl)
    · exact hs
    · exact hs

/-- MEMORY_RESPONSE (R97, R104). -/
theorem execMemoryResponse_keeps (source : Byte) (tag : Fin 64) (st : MemStatus) (data : List Byte) :
    StepKeeps (execMemoryResponse source tag st data) := by
  refine Keeps.next fun s hs => ?_
  split
  · exact matchOwn_keeps tag st data s hs
  · exact matchHost_keeps source tag st data s hs

/-- The oldest response passed back (R102). -/
theorem passBack_keeps : Keeps passBack := by
  intro s hs
  unfold passBack
  split
  · exact hs
  · rename_i t rest hq
    split
    · split
      · rw [pathOk_iff]
        exact ((pathOk_iff s).1 hs).passedBack _ hq
      · exact hs
    · exact hs
    · exact hs

/-! ### Requests of the part's own -/

/-- Requests handed to the internal source, whatever changes in other blocks (R94). -/
theorem handedOver_keeps {s t : State} {rs : List OwnRequest} (h : pathSide t = (s.path.handOver rs, s.held))
    (hs : PathOk s) : PathOk t := by
  obtain ⟨hp, hh⟩ := Prod.mk.inj h
  rw [pathOk_iff, hp, hh]
  exact ((pathOk_iff s).1 hs).handOver rs

/-- A chunk read issued (R38, R94). -/
theorem issueChunk_keeps (c : Copying) : Keeps (issueChunk c) := by
  intro s hs
  unfold issueChunk
  split
  · exact hs
  · split
    · exact handedOver_keeps rfl hs
    · exact hs

/-- CHUNK_READ_ISSUE (R38). -/
theorem execChunkReadIssue_keeps : StepKeeps execChunkReadIssue := by
  refine Keeps.live fun s hs => ?_
  split
  · split
    · exact issueChunk_keeps _ s hs
    · exact hs
  · exact hs

/-- The oldest unstarted frame started (R94, R162). -/
theorem startNext_keeps : Keeps startNext := by
  intro s hs
  unfold startNext
  split
  · split
    · unfold startFrame
      split
      · exact pathOk_of_pathSide (pathSide_retire ..) hs
      · split
        · exact handedOver_keeps rfl hs
        · exact hs
    · exact hs
  · exact hs

/-! ### Resets -/

/-- The part held in power-on reset (R104). -/
theorem pathOk_reset : PathOk State.reset := by decide

/-- A part with no request outstanding and no held write (R89). -/
theorem memoryPathOk_of_unused {p : Path} (hq : p.hostQueue = [] ∧ p.answerQueue = [] ∧ p.ownQueue = [])
    (ht : ∀ t : Fin 64, SameView .free p.table[t]) (ho : ∀ u : Fin 8, ownWaiting p.own[u] = false) :
    MemoryPathOk p [] := by
  obtain ⟨hhost, hanswer, hown⟩ := hq
  have hempty : MemoryPathOk Path.reset [] := (pathOk_iff State.reset).1 pathOk_reset
  refine hempty.sameView ⟨hhost, hanswer⟩ (fun t => ?_) ⟨by rw [hown]; exact .nil, fun u => by rw [hown, ho]; simp⟩
  have hfree : Path.reset.table[t] = .free := by simp [Path.reset]
  rw [hfree]
  exact ht t

/-- Board reset leaves no tracking entry in use (R103). -/
theorem staleSlot_unused (x : TrackSlot) : SameView .free (staleSlot x) := by
  cases x with
  | used e => cases h : e.state <;> simp only [staleSlot, h] <;> exact ⟨rfl, rfl, rfl, rfl, rfl, rfl⟩
  | free => exact .refl _
  | stale _ _ => exact ⟨rfl, rfl, rfl, rfl, rfl, rfl⟩

/-- POWER_ON_RESET (R104). -/
theorem execPowerOnReset_keeps : StepKeeps execPowerOnReset := by
  refine Keeps.next fun s _ => ?_
  exact pathOk_of_pathSide (s := State.reset) rfl pathOk_reset

/-- BOARD_RESET_ASSERT: outstanding tags stay as stale marks, and nothing else does (R103). -/
theorem execBoardResetAssert_keeps : StepKeeps execBoardResetAssert := by
  refine Keeps.next fun s hs => ?_
  split
  · rw [pathOk_iff]
    refine memoryPathOk_of_unused ⟨rfl, rfl, rfl⟩ (fun t => ?_) (fun u => ?_)
    · simpa [Path.boardReset] using staleSlot_unused s.path.table[t]
    · have hidle : ∀ x, ownWaiting (staleOwn x) = false := fun x => by cases x <;> rfl
      simpa [Path.boardReset] using hidle s.path.own[u]
  · exact hs

/-- BOARD_RESET_RELEASE (R103). -/
theorem execBoardResetRelease_keeps (strapHigh : Bool) : StepKeeps (execBoardResetRelease strapHigh) := by
  refine Keeps.next fun s hs => ?_
  split
  · rw [pathOk_iff]
    exact ((pathOk_iff s).1 hs).clearKept
  · exact hs

end Sys2Proof.Proofs
end

section
/-! PROOFS. Each command of the table keeps the invariant of the memory path, and so does every step. -/
namespace Sys2Proof.Proofs

open Sys2Proof.Machine Sys2Proof.Safety

/-! ### The link unit's commands -/

/-- HELLO_TIMER_EXPIRY (R115). -/
theorem execHelloTimerExpiry_keeps : StepKeeps execHelloTimerExpiry := by
  refine Keeps.live (Keeps.when (.of_pathSide fun s => ?_) _)
  unfold helloExpired
  dsimp only
  split
  · split <;> rfl
  · rfl

/-- DRAIN_TIMER_EXPIRY (R53). -/
theorem execDrainTimerExpiry_keeps : StepKeeps execDrainTimerExpiry :=
  Keeps.live (Keeps.when (f := fun s => endDrain .timeout [] (stopPrimary s)) stopPrimary_keeps _)

/-- DRAIN_NORMAL_END (R51). -/
theorem execDrainNormalEnd_keeps : StepKeeps execDrainNormalEnd :=
  Keeps.live (Keeps.when (f := endDrainNormally) stopPrimary_keeps _)

/-- ACK_TIMER_EXPIRY (R127). -/
theorem execAckTimerExpiry_keeps : StepKeeps execAckTimerExpiry :=
  Keeps.live (Keeps.when (f := ackExpired) (fun _ hs => checkRetry_keeps _ hs) _)

/-- FRAME_DISCARDED (R111, R142). -/
theorem execFrameDiscarded_keeps (d : Delivery) : StepKeeps (execFrameDiscarded d) := by
  refine Keeps.live (.takeDelivery .link fun x s t hs ht => ?_)
  split at ht
  · obtain ⟨c, -, rfl⟩ := Option.map_eq_some_iff.1 ht
    exact hs
  · cases ht

/-- HELLO_ROLE_CONFLICT (R131). -/
theorem execHelloRoleConflict_keeps (session : Byte) : StepKeeps (execHelloRoleConflict session) := by
  have hconflict : ∀ s, pathSide (roleConflict session s) = pathSide s := by
    intro s
    unfold roleConflict
    dsimp only
    split <;> rfl
  have htake : Keeps (takeDelivery .link
      (fun d s => if helloOf session d then some (roleConflict session s) else none)) := by
    refine .takeDelivery .link fun d s t hs ht => ?_
    split at ht
    · cases ht
      exact pathOk_of_pathSide (hconflict s) hs
    · cases ht
  refine Keeps.live fun s hs => ?_
  split
  · exact htake s hs
  · exact hs

/-- WELCOME_TAKEN (R116). -/
theorem execWelcomeTaken_keeps (session : Byte) (result : WelcomeResult) :
    StepKeeps (execWelcomeTaken session result) := by
  refine Keeps.live (.takeFrame _ (.of_pathSide fun s => ?_))
  unfold welcomed
  split
  · split <;> rfl
  · rfl
  · rfl

/-- BYE_TAKEN (R117, R128). -/
theorem execByeTaken_keeps (session : Byte) (reason : ByeReason) : StepKeeps (execByeTaken session reason) := by
  refine Keeps.live fun s hs => ?_
  split
  · exact Keeps.takeFrame _ (peerLeft_keeps reason) s hs
  · exact hs

/-- LINK_FRAME_TRANSMIT_START (R119, R120). -/
theorem execLinkFrameTransmitStart_keeps : StepKeeps execLinkFrameTransmitStart := by
  refine Keeps.live (Keeps.when (.of_pathSide fun s => ?_) _)
  unfold sendNext
  split
  · rfl
  · split
    · split
      · unfold sendEntry
        dsimp only
        split <;> rfl
      · rfl
    · rfl

/-- The level at the HOLD connection (R121 to R123, R138). -/
theorem execHold_keeps : StepKeeps execHoldAsserted ∧ StepKeeps execHoldWithdrawn := by
  constructor
  · refine Keeps.next (.of_pathSide fun s => ?_)
    split <;> rfl
  · refine Keeps.next (.of_pathSide fun s => ?_)
    split <;> rfl

/-! ### The character layer's commands -/

/-- CHARACTER_RECEIVED (R139, R140). -/
theorem execCharacterReceived_keeps (l : LineId) (c : Character) : StepKeeps (execCharacterReceived l c) := by
  have happend : ∀ bs s, pathSide (appendByte l bs c.data s) = pathSide s := by
    intro bs s
    unfold appendByte
    split
    · exact pathSide_withLine ..
    · exact pathSide_withLine l _ s
  have hgood : ∀ s, pathSide (goodCharacter l c s) = pathSide s := by
    intro s
    unfold goodCharacter
    split
    · exact (pathSide_withLine ..).trans (pathSide_abandonFrame ..)
    · split
      · exact happend _ s
      · rfl
  refine live_keeps_of_pathSide fun s => ?_
  unfold receive
  split
  · rfl
  · dsimp only
    split
    · exact hgood _
    · exact pathSide_abandonFrame l _
    · exact (pathSide_withLine ..).trans (pathSide_abandonFrame l _)

/-- TRANSMISSION_END (R114, R123, R136, R137). -/
theorem execTransmissionEnd_keeps (l : LineId) : StepKeeps (execTransmissionEnd l) := by
  have hlink : ∀ f s, pathSide (linkSent f s) = pathSide s := by
    intro f s
    unfold linkSent
    split
    · unfold helloSent
      split <;> rfl
    · unfold sequencedSent
      split <;> rfl
    all_goals rfl
  have hsent : ∀ c s, pathSide (frameSent c s) = pathSide s := by
    intro c s
    cases c with
    | link f => exact hlink f s
    | response r => rfl
  refine live_keeps_of_pathSide fun s => ?_
  unfold endTx
  split
  · split
    · rfl
    · exact (hsent _ _).trans (pathSide_withLine ..)
  · rfl

/-- RESPONSE_TRANSMIT_START (R189). -/
theorem execResponseTransmitStart_keeps : StepKeeps execResponseTransmitStart := by
  refine live_keeps_of_pathSide fun s => ?_
  unfold sendResponse
  split <;> rfl

/-! ### The replica apply unit's commands -/

/-- HELLO_TAKEN (R150 to R154). -/
theorem execHelloTaken_keeps (session : Byte) (h : HelloBody) : StepKeeps (execHelloTaken session h) := by
  have harrived : ∀ s, pathSide (helloArrived session h s) = pathSide s := by
    intro s
    unfold helloArrived
    split
    · split
      · unfold helloAgain
        split <;> rfl
      · exact pathSide_judgeHello ..
    · exact pathSide_judgeHello ..
    · rfl
  refine Keeps.live fun s hs => ?_
  split
  · exact Keeps.takeFrame _ (.of_pathSide harrived) s hs
  · exact hs

/-- SEQUENCED_FRAME_TAKEN (R155, R157, R159). -/
theorem execSequencedFrameTaken_keeps (session : Byte) (n : SeqNum) (b : SeqBody) :
    StepKeeps (execSequencedFrameTaken session n b) := by
  refine Keeps.live (.takeFrame _ (.of_pathSide fun s => ?_))
  unfold sequencedArrived
  dsimp only
  split
  · exact pathSide_inOrder ..
  · split <;> rfl

/-- REPLICA_BYE_TAKEN (R169). -/
theorem execReplicaByeTaken_keeps (session : Byte) (reason : ByeReason) :
    StepKeeps (execReplicaByeTaken session reason) := by
  have hleave : Keeps (leaveSession none .listening) := .of_pathSide fun _ => rfl
  refine Keeps.live fun s hs => ?_
  split
  · exact hleave.takeFrame _ s hs
  · exact hs

/-- REPLY_FRAME_TRANSMIT_START (R165). -/
theorem execReplyFrameTransmitStart_keeps : StepKeeps execReplyFrameTransmitStart := by
  refine Keeps.live (Keeps.when (.of_pathSide fun s => ?_) _)
  unfold sendReply
  split <;> rfl

/-! ### The service port's commands -/

/-- SERVICE_FRAME_REJECTED (R187, R189). -/
theorem execServiceFrameRejected_keeps (d : Delivery) : StepKeeps (execServiceFrameRejected d) := by
  have hreject : ∀ x s t, rejectDelivery x s = some t → PathOk s → PathOk t := by
    intro x s t ht hs
    unfold rejectDelivery at ht
    split at ht
    · cases ht
      exact hs
    · split at ht
      · cases ht
      · cases ht
        exact Keeps.throughSlot _ (act := respond _ _ _) (.of_pathSide fun _ => rfl) s hs
  refine Keeps.live (.takeDelivery .service fun x s t hs ht => ?_)
  split at ht
  · split at ht
    · cases ht
      exact hs
    · exact hreject x s t ht hs
  · cases ht

/-- SERVICE_FRAME_DROPPED (R189). -/
theorem execServiceFrameDropped_keeps : StepKeeps execServiceFrameDropped := by
  refine Keeps.live (.takeDelivery .service fun x s t hs ht => ?_)
  split at ht
  · cases ht
    exact hs
  · cases ht

/-- STATUS (R192). -/
theorem execStatus_keeps (group : Byte) : StepKeeps (execStatus group) :=
  serve_keeps_of_pathSide _ _ fun s => by
    unfold doStatus
    split <;> rfl

/-- READ_PARAM (R193). -/
theorem execReadParam_keeps (number : Byte) : StepKeeps (execReadParam number) :=
  serve_keeps_of_pathSide _ _ fun s => by
    unfold doReadParam
    split <;> rfl

/-- WRITE_PARAM (R193, R194). -/
theorem execWriteParam_keeps (number : Byte) (value : BitVec 16) : StepKeeps (execWriteParam number value) := by
  have hpend : ∀ p v s, pathSide (pendDivisor p v s) = pathSide s := by
    intro p v s
    cases p <;> rfl
  refine serve_keeps_of_pathSide _ _ fun s => ?_
  unfold doWriteParam
  split
  · rfl
  · split
    · rfl
    · split
      · rfl
      · exact hpend ..

/-- LOAD_REGION (R77, R79). -/
theorem execLoadRegion_keeps (index : Byte) (base count : BitVec 32) (kind policy : Byte) :
    StepKeeps (execLoadRegion index base count kind policy) := by
  have hchecked : ∀ i r, Keeps (loadChecked i r) := by
    intro i r s hs
    unfold loadChecked
    split
    · exact hs
    · split
      · exact hs
      · split
        · exact hs
        · exact changeRegion_keeps i (some r) s hs
  refine Keeps.serve _ _ fun s hs => ?_
  unfold doLoadRegion
  split
  · exact hchecked _ _ s hs
  · exact hs

/-- CLEAR_REGION (R80). -/
theorem execClearRegion_keeps (index : Byte) : StepKeeps (execClearRegion index) := by
  have hclear : ∀ i, Keeps (clearEntry i) := by
    intro i s hs
    unfold clearEntry
    split
    · exact hs
    · split
      · exact hs
      · exact changeRegion_keeps i none s hs
  refine Keeps.serve _ _ fun s hs => ?_
  unfold doClearRegion
  split
  · exact hclear _ s hs
  · exact hs

/-- READ_REGION (R81). -/
theorem execReadRegion_keeps (index : Byte) : StepKeeps (execReadRegion index) :=
  serve_keeps_of_pathSide _ _ fun s => by
    unfold doReadRegion
    split <;> rfl

/-- START, in either form (R43, R148, R195). -/
theorem doStart_pathSide (m : State → Mirror) (s : State) : pathSide (doStart m s) = pathSide s := by
  unfold doStart
  split
  · rfl
  · split
    · rfl
    · split <;> rfl

/-- STOP NOW (R48, R148). -/
theorem execStopNow_keeps : StepKeeps execStopNow := by
  refine Keeps.serve _ _ fun s hs => ?_
  unfold doStopNow
  split
  · exact hs
  · split
    · exact stopPrimary_keeps s hs
    · exact pathOk_of_pathSide (pathSide_stopReplica s) hs

/-- STOP DRAIN (R49). -/
theorem execStopDrain_keeps : StepKeeps execStopDrain :=
  serve_keeps_of_pathSide _ _ fun s => by
    unfold doStopDrain
    split <;> rfl

/-- ABORT (R53, R191). -/
theorem execAbort_keeps : StepKeeps execAbort := by
  refine Keeps.takeCommand _ (.withPlace fun s hs => ?_)
  unfold doAbort
  split
  · exact stopPrimary_keeps _ hs
  · exact hs
  · exact hs

/-- RESYNC (R54). -/
theorem execResync_keeps (scope : ResyncScope) : StepKeeps (execResync scope) :=
  serve_keeps_of_pathSide _ _ fun s => by
    unfold doResync
    split
    · rfl
    · split
      · rfl
      · split <;> rfl

/-- READ_COUNTERS (R198). -/
theorem execReadCounters_keeps (number : Byte) : StepKeeps (execReadCounters number) :=
  serve_keeps_of_pathSide _ _ fun s => by
    unfold doReadCounters
    split <;> rfl

/-- CLEAR_COUNTERS (R198). -/
theorem execClearCounters_keeps (number : Byte) : StepKeeps (execClearCounters number) :=
  serve_keeps_of_pathSide _ _ fun s => by
    unfold doClearCounters
    split
    · rfl
    · split <;> rfl

/-- SET_ROLE (R170, R200). -/
theorem execSetRole_keeps (role : Byte) : StepKeeps (execSetRole role) := by
  have hchecked : ∀ r, Keeps (setRoleChecked r) := by
    intro r s hs
    unfold setRoleChecked
    split
    · exact hs
    · split
      · exact hs
      · split
        · exact hs
        · exact changeRole_keeps r s hs
  refine Keeps.serve _ _ fun s hs => ?_
  unfold doSetRole
  split
  · exact hchecked _ s hs
  · exact hs

/-- PROMOTE (R171, R201). -/
theorem execPromote_keeps (force : Byte) : StepKeeps (execPromote force) := by
  have hperform : Keeps performPromote := by
    intro s hs
    unfold performPromote
    split <;> exact changeRole_keeps .primary _ hs
  refine Keeps.serve _ _ fun s hs => ?_
  unfold doPromote
  split
  · exact hs
  · split
    · exact hs
    · split
      · exact hs
      · split
        · exact hs
        · exact hperform s hs

/-- The completion of a soft reset (R203). -/
theorem completeSoftReset_pathSide (s : State) : pathSide (completeSoftReset s) = pathSide s := by
  unfold completeSoftReset
  split <;> rfl

/-- SOFT_RESET (R202, R203). -/
theorem execSoftReset_keeps : StepKeeps execSoftReset := by
  refine Keeps.serve _ _ fun s hs => pathOk_of_pathSide ?_ (softStop_keeps s hs)
  exact (completeSoftReset_pathSide _).trans ((pathSide_abandonFrame .service _).trans (pathSide_abandonFrame .link _))

/-- SOFT_RESET_COMPLETE (R203). -/
theorem execSoftResetComplete_keeps : StepKeeps execSoftResetComplete :=
  live_keeps_of_pathSide fun s => by
    split
    · exact completeSoftReset_pathSide s
    · rfl
    · rfl

/-! ### Every step -/

/-- Every command keeps the invariant of the memory path. -/
theorem exec_keeps (c : Instr) : StepKeeps (exec c) := by
  cases c with
  | powerOnReset => exact execPowerOnReset_keeps
  | boardResetAssert => exact execBoardResetAssert_keeps
  | boardResetRelease strapHigh => exact execBoardResetRelease_keeps strapHigh
  | hostRequestTake presented => exact execHostRequestTake_keeps presented
  | memorySideGrant => exact arbitrate_keeps.live
  | memoryResponse source tag status data => exact execMemoryResponse_keeps source tag status data
  | hostResponsePassBack => exact passBack_keeps.live
  | sweepPick => exact live_when_keeps_of_pathSide (fun s => s.withMirror s.mirror.pick) _ fun _ => rfl
  | chunkReadIssue => exact execChunkReadIssue_keeps
  | doneEntryAppend => exact live_when_keeps_of_pathSide appendDone _ fun _ => rfl
  | drainNormalEnd => exact execDrainNormalEnd_keeps
  | holdAsserted => exact execHold_keeps.1
  | holdWithdrawn => exact execHold_keeps.2
  | helloTimerExpiry => exact execHelloTimerExpiry_keeps
  | ackTimerExpiry => exact execAckTimerExpiry_keeps
  | holdTimerExpiry => exact Keeps.live (holdExpired_keeps.when _)
  | relinkTimerExpiry => exact live_when_keeps_of_pathSide (fun s => enterLinking (bump .relinkAttempts s)) _ fun _ => rfl
  | drainTimerExpiry => exact execDrainTimerExpiry_keeps
  | characterReceived line ch => exact execCharacterReceived_keeps line ch
  | frameDiscarded d => exact execFrameDiscarded_keeps d
  | helloRoleConflict session => exact execHelloRoleConflict_keeps session
  | welcomeTaken session result => exact execWelcomeTaken_keeps session result
  | byeTaken session reason => exact execByeTaken_keeps session reason
  | ackTaken session n => exact Keeps.live (.takeFrame _ (ackArrived_keeps n))
  | nakTaken session n => exact Keeps.live (.takeFrame _ (nakArrived_keeps n))
  | helloTaken session hello => exact execHelloTaken_keeps session hello
  | sequencedFrameTaken session n body => exact execSequencedFrameTaken_keeps session n body
  | replicaByeTaken session reason => exact execReplicaByeTaken_keeps session reason
  | applyFrameStart => exact startNext_keeps.live
  | welcomeAcceptSend => exact live_when_keeps_of_pathSide acceptSend _ fun _ => rfl
  | linkFrameTransmitStart => exact execLinkFrameTransmitStart_keeps
  | replyFrameTransmitStart => exact execReplyFrameTransmitStart_keeps
  | responseTransmitStart => exact execResponseTransmitStart_keeps
  | transmissionEnd line => exact execTransmissionEnd_keeps line
  | divisorTakeEffect line half => exact live_keeps_of_pathSide fun _ => pathSide_withLine ..
  | serviceFrameRejected d => exact execServiceFrameRejected_keeps d
  | serviceFrameDropped => exact execServiceFrameDropped_keeps
  | status group => exact execStatus_keeps group
  | readParam number => exact execReadParam_keeps number
  | writeParam number value => exact execWriteParam_keeps number value
  | loadRegion index base count kind policy => exact execLoadRegion_keeps index base count kind policy
  | clearRegion index => exact execClearRegion_keeps index
  | readRegion index => exact execReadRegion_keeps index
  | startFull => exact serve_keeps_of_pathSide _ _ (doStart_pathSide fullStart)
  | startClean => exact serve_keeps_of_pathSide _ _ (doStart_pathSide cleanStart)
  | stopNow => exact execStopNow_keeps
  | stopDrain => exact execStopDrain_keeps
  | abort => exact execAbort_keeps
  | resync scope => exact execResync_keeps scope
  | readException => exact serve_keeps_of_pathSide _ _ fun _ => rfl
  | clearOverflow => exact serve_keeps_of_pathSide _ _ fun _ => rfl
  | readAlerts => exact serve_keeps_of_pathSide _ _ fun _ => rfl
  | ackAlerts causes => exact serve_keeps_of_pathSide _ _ fun _ => rfl
  | setAlertMask causes => exact serve_keeps_of_pathSide _ _ fun _ => rfl
  | readMarker => exact serve_keeps_of_pathSide _ _ fun _ => rfl
  | readCounters number => exact execReadCounters_keeps number
  | clearCounters number => exact execClearCounters_keeps number
  | setRole role => exact execSetRole_keeps role
  | promote force => exact execPromote_keeps force
  | softReset => exact execSoftReset_keeps
  | softResetComplete => exact execSoftResetComplete_keeps
  | lineSampledHigh line => exact live_keeps_of_pathSide fun _ => pathSide_withLine ..
  | characterBoundary => exact live_keeps_of_pathSide fun _ => rfl
  | powerOnResetEnd strapHigh =>
    refine Keeps.next (.of_pathSide fun s => ?_)
    split <;> rfl

/-- Settles O57: the command at the front of the queue keeps the invariant, and an idle step changes nothing. -/
theorem stepsKeepTheMemoryPath : Obligations.StepsKeepTheMemoryPath := by
  intro s t hs ht
  unfold step at ht
  split at ht
  · cases ht
    exact hs
  · rename_i c rest _
    exact exec_keeps c { s with pending := rest } t hs ht

end Sys2Proof.Proofs
end

section
/-! PROOFS. The reading commands of the service port: which parameter, region or body a number names, and that each command
only answers (R81, R178, R183, R192, R193, R197, R198). -/
namespace Sys2Proof.Proofs

open Sys2Proof.Machine Sys2Proof.Safety

/-! ### What a number names -/

/-- A parameter's number names it (R194). -/
theorem paramOfNumber_paramNumber (p : Param) : paramOfNumber (BitVec.ofNat 8 (paramNumber p).val).toNat = some p := by
  cases p <;> rfl

/-- A number above 11 names no parameter (R193). -/
theorem paramOfNumber_none {n : Nat} (h : 12 ≤ n) : paramOfNumber n = none := by
  obtain ⟨k, rfl⟩ := Nat.exists_eq_add_of_le' h
  rfl

/-- A byte below 32 is a region index (R81). -/
theorem regionIndex_some {b : Byte} {i : Fin 32} (h : b.toNat = i.val) : regionIndex b = some i := by
  simp [regionIndex, h]

/-- A byte above 31 is no region index (R81). -/
theorem regionIndex_none {b : Byte} (h : 32 ≤ b.toNat) : regionIndex b = none :=
  dif_neg (Nat.not_lt.2 h)

/-- STATUS has a body for the groups 0 to 4 (R192). -/
theorem statusBody_some {g : Nat} (h : g < 5) (s : State) : ∃ body, statusBody g s = some body := by
  match g, h with
  | 0, _ => exact ⟨_, rfl⟩
  | 1, _ => exact ⟨_, rfl⟩
  | 2, _ => exact ⟨_, rfl⟩
  | 3, _ => exact ⟨_, rfl⟩
  | 4, _ => exact ⟨_, rfl⟩

/-- STATUS has no body for a group above 4 (R192). -/
theorem statusBody_none {g : Nat} (h : 5 ≤ g) (s : State) : statusBody g s = none := by
  obtain ⟨k, rfl⟩ := Nat.exists_eq_add_of_le' h
  rfl

/-- A number in one byte. -/
theorem beBytes_one (n : Nat) : beBytes 1 n = [BitVec.ofNat 8 n] := by
  simp [beBytes]

/-! ### What each reading command answers -/

/-- STATUS of a group that has a body (R192). -/
theorem doStatus_ok {g : Byte} {body : List Byte} {s : State} (h : statusBody g.toNat s = some body) :
    doStatus g s = answered 129 .ok body s := by
  simp only [doStatus, h]
  rfl

/-- STATUS of a group out of range (R192). -/
theorem doStatus_range {g : Byte} (s : State) (h : 5 ≤ g.toNat) : doStatus g s = answered 129 .range [] s := by
  simp only [doStatus, statusBody_none h]
  rfl

/-- READ_PARAM of a parameter's number (R193). -/
theorem doReadParam_ok (p : Param) (s : State) :
    doReadParam (BitVec.ofNat 8 (paramNumber p).val) s = answered 130 .ok
      (BitVec.ofNat 8 (paramNumber p).val :: beBytes (if paramMax p < 256 then 1 else 2) (param p s)) s := by
  simp only [doReadParam, paramOfNumber_paramNumber, paramBody, beBytes_one]
  rfl

/-- READ_PARAM of a number out of range (R193). -/
theorem doReadParam_range {n : Byte} (s : State) (h : 12 ≤ n.toNat) :
    doReadParam n s = answered 130 .range [] s := by
  simp only [doReadParam, paramOfNumber_none h]
  rfl

/-- READ_REGION of an index (R81). -/
theorem doReadRegion_ok {n : Byte} {i : Fin 32} (s : State) (h : n.toNat = i.val) :
    doReadRegion n s = answered 134 .ok (regionBody i s) s := by
  simp only [doReadRegion, regionIndex_some h]
  rfl

/-- READ_REGION of an index out of range (R81). -/
theorem doReadRegion_range {n : Byte} (s : State) (h : 32 ≤ n.toNat) :
    doReadRegion n s = answered 134 .range [] s := by
  simp only [doReadRegion, regionIndex_none h]
  rfl

/-- READ_ALERTS: the pending set, the mask set and the level driven on ALERT_N (R183, R184). -/
theorem doReadAlerts_eq (s : State) : doReadAlerts s = answered 141 .ok
    [s.alerts.pending, s.alerts.mask, if s.alerts.pending &&& ~~~s.alerts.mask = 0 then 0 else 1] s := by
  have hlevel : flagByte s.alerts.drivenLow = [if s.alerts.pending &&& ~~~s.alerts.mask = 0 then 0 else 1] := by
    by_cases h : s.alerts.pending &&& ~~~s.alerts.mask = 0 <;> simp [flagByte, Alerts.drivenLow, h]
  rw [doReadAlerts, hlevel]
  rfl

/-- READ_MARKER (R197). -/
theorem doReadMarker_eq (s : State) : doReadMarker s = answered 144 .ok
    ((if s.replica.marker.valid then 1 else 0)
      :: beBytes 4 s.replica.marker.value.toNat ++ [BitVec.ofNat 8 s.replica.marker.region.val]) s := by
  rw [doReadMarker, markerBody, beBytes_one]
  rfl

/-- READ_COUNTERS of a counter's number (R198). -/
theorem doReadCounters_ok {n : Byte} (s : State) (h : n.toNat < 29) :
    doReadCounters n s = answered 145 .ok (n :: beBytes 4 (s.counters[n.toNat])) s :=
  dif_pos h

/-- READ_COUNTERS of a number out of range (R198). -/
theorem doReadCounters_range {n : Byte} (s : State) (h : 29 ≤ n.toNat) :
    doReadCounters n s = answered 145 .range [] s :=
  dif_neg (Nat.not_lt.2 h)

/-- A command that is carried out leaves the part as its effect does (R189, R190). -/
theorem exec_carriedOut {c : Instr} {code : Nat} {d : Delivery} {act : State → State} {s t : State}
    (hs : CommandTaken s) (hc : Carries d c) (hact : act s = t) (hexec : exec c = serve c code act) :
    exec c (handed .service d s) = .next t := by
  rw [hexec, serve_carriedOut hs hc, hact]

/-- Settles O40: each reading command is carried out, and its effect is the response alone. -/
theorem readingCommandsOnlyAnswer : Obligations.ReadingCommandsOnlyAnswer := by
  intro s d hs
  refine ⟨fun g body hd hbody => exec_carriedOut hs hd (doStatus_ok hbody) rfl,
    fun g hg => statusBody_some hg s,
    fun g hd hg => exec_carriedOut hs hd (doStatus_range s hg) rfl,
    fun p hd => exec_carriedOut hs hd (doReadParam_ok p s) rfl,
    fun n hd hn => exec_carriedOut hs hd (doReadParam_range s hn) rfl,
    fun n i hd hn => exec_carriedOut hs hd (doReadRegion_ok s hn) rfl,
    fun n hd hn => exec_carriedOut hs hd (doReadRegion_range s hn) rfl,
    fun hd => exec_carriedOut hs hd (doReadAlerts_eq s) rfl,
    fun hd => exec_carriedOut hs hd (doReadMarker_eq s) rfl,
    fun n hn hd => exec_carriedOut hs hd (doReadCounters_ok s hn) rfl,
    fun n hd hn => exec_carriedOut hs hd (doReadCounters_range s hn) rfl⟩

end Sys2Proof.Proofs
end

section
/-! PROOFS. The region commands: what each of their checks asks of the table, what a change of an entry does to it and to the
writes that wait, and the commands by their checks in order (R77 to R80, R82). -/
namespace Sys2Proof.Proofs

open Sys2Proof.Machine Sys2Proof.Safety

/-! ### The checks -/

/-- A change is one that R78 permits only in OFF if the new entry or the old one is protected. -/
theorem anyProtected_iff (old new : Option Region) : (old.any Region.isProtected || new.any Region.isProtected) = true ↔
    (∃ r ∈ new, r.isProtected = true) ∨ ∃ q ∈ old, q.isProtected = true := by
  rw [Bool.or_eq_true, Option.any_eq_true, Option.any_eq_true, or_comm]
  rfl

/-- Outside OFF a change of a protected entry, or to one, is not permitted (R78). -/
theorem changePermitted_false {old new : Option Region} {s : State} (hon : ownStateOff s = false)
    (hprot : (∃ r ∈ new, r.isProtected = true) ∨ ∃ q ∈ old, q.isProtected = true) :
    changePermitted old new s = false := by
  rw [changePermitted, hon, (anyProtected_iff old new).2 hprot]
  rfl

/-- A change is permitted in OFF, and outside it between entries that are not protected (R78). -/
theorem changePermitted_true {old new : Option Region} {s : State}
    (h : ownStateOff s = true ∨ ((∀ r ∈ new, r.isProtected = false) ∧ ∀ q ∈ old, q.isProtected = false)) :
    changePermitted old new s = true := by
  rw [changePermitted, Bool.or_eq_true]
  refine h.imp_right fun ⟨hnew, hold⟩ => ?_
  rw [Bool.not_eq_true', ← Bool.not_eq_true, anyProtected_iff]
  rintro (⟨r, hr, hp⟩ | ⟨q, hq, hp⟩)
  · rw [hnew r hr] at hp
    cases hp
  · rw [hold q hq] at hp
    cases hp

/-- A region shares a page with a valid entry at another index (R77). -/
theorem overlapsOther_iff (regions : Vector (Option Region) 32) (i : Fin 32) (r : Region) :
    overlapsOther regions i r = true ↔ ∃ j : Fin 32, j ≠ i ∧ ∃ q, regions[j] = some q ∧ r.overlaps q = true := by
  simp only [overlapsOther, regionIndices, List.any_eq_true, List.mem_finRange, true_and, Bool.and_eq_true,
    decide_eq_true_eq]
  refine exists_congr fun j => and_congr_right fun _ => ?_
  cases regions[j] <;> simp

/-- A region shares no page with a valid entry at another index (R70, R77). -/
theorem overlapsOther_false_iff (regions : Vector (Option Region) 32) (i : Fin 32) (r : Region) :
    overlapsOther regions i r = false ↔ ∀ j : Fin 32, j ≠ i → ∀ q ∈ regions[j], r.overlaps q = false := by
  rw [← Bool.not_eq_true, overlapsOther_iff]
  constructor
  · intro h j hj q hq
    exact Bool.eq_false_iff.2 fun ho => h ⟨j, hj, q, hq, ho⟩
  · rintro h ⟨j, hj, q, hq, ho⟩
    rw [h j hj q hq] at ho
    cases ho

/-- A MIRROR region would take the page total past its limit (R70, R77). -/
theorem capacityFails_iff (r : Region) (total : Nat) :
    (r.isMirror && decide (Config.mirrorPageLimit < total)) = true ↔ r.isMirror = true ∧ 65536 < total := by
  rw [Bool.and_eq_true, decide_eq_true_iff, Config.mirrorPageLimit]

/-! ### The change -/

/-- A changed entry, and the waiting writes unsettled if the change is one that R78 permits only in OFF (R79, R82). -/
theorem changeRegion_eq (i : Fin 32) (new : Option Region) (s : State) :
    changeRegion i new s = { s with
      regions := s.regions.set i new,
      path := if (s.regions[i]).any Region.isProtected || new.any Region.isProtected then s.path.unsettle else s.path } := by
  unfold changeRegion
  dsimp only
  split <;> rfl

/-- LOAD_REGION of a change that is not permitted (R77, R78). -/
theorem loadChecked_state {i : Fin 32} {r : Region} {s : State}
    (hp : changePermitted s.regions[i] (some r) s = false) : loadChecked i r s = answered 132 .state [] s := by
  simp only [loadChecked, hp]
  rfl

/-- LOAD_REGION of a region that shares a page with another entry (R77). -/
theorem loadChecked_overlap {i : Fin 32} {r : Region} {s : State}
    (hp : changePermitted s.regions[i] (some r) s = true) (ho : overlapsOther s.regions i r = true) :
    loadChecked i r s = answered 132 .overlap [] s := by
  simp only [loadChecked, hp, ho]
  rfl

/-- LOAD_REGION of a MIRROR region that takes the page total past its limit (R77). -/
theorem loadChecked_capacity {i : Fin 32} {r : Region} {s : State}
    (hp : changePermitted s.regions[i] (some r) s = true) (ho : overlapsOther s.regions i r = false)
    (hm : r.isMirror = true ∧ 65536 < mirrorPageTotal (s.regions.set i (some r))) :
    loadChecked i r s = answered 132 .capacity [] s := by
  simp only [loadChecked, hp, ho, (capacityFails_iff _ _).2 hm]
  rfl

/-- LOAD_REGION that passes its checks (R77, R79). -/
theorem loadChecked_ok {i : Fin 32} {r : Region} {s : State}
    (hp : changePermitted s.regions[i] (some r) s = true) (ho : overlapsOther s.regions i r = false)
    (hm : ¬(r.isMirror = true ∧ 65536 < mirrorPageTotal (s.regions.set i (some r)))) :
    loadChecked i r s = answered 132 .ok (totalAndDigest (s.regions.set i (some r))) (changeRegion i (some r) s) := by
  rw [← capacityFails_iff, Bool.not_eq_true] at hm
  simp only [loadChecked, hp, ho, hm, changeRegion_eq]
  rfl

/-- LOAD_REGION with a value out of range (R77). -/
theorem doLoadRegion_range {index kind policy : Byte} {base count : BitVec 32} (s : State)
    (h : regionIndex index = none ∨ loadedRegion base count kind policy = none) :
    doLoadRegion index base count kind policy s = answered 132 .range [] s := by
  unfold doLoadRegion
  split
  · rename_i hi hr
    rw [hi, hr] at h
    rcases h with h | h <;> cases h
  · rfl

/-- LOAD_REGION with its values in range (R77). -/
theorem doLoadRegion_checked {index kind policy : Byte} {base count : BitVec 32} {i : Fin 32} {r : Region} (s : State)
    (hi : regionIndex index = some i) (hr : loadedRegion base count kind policy = some r) :
    doLoadRegion index base count kind policy s = loadChecked i r s := by
  simp only [doLoadRegion, hi, hr]

/-- CLEAR_REGION of an entry that is empty (R80). -/
theorem clearEntry_empty {i : Fin 32} {s : State} (h : s.regions[i] = none) :
    clearEntry i s = answered 133 .ok
      (3 :: beBytes 3 (mirrorPageTotal s.regions) ++ beBytes 4 (regionDigest s.regions).toNat) s := by
  simp only [clearEntry, h]
  rfl

/-- CLEAR_REGION of an entry whose change is not permitted (R78, R80). -/
theorem clearEntry_state {i : Fin 32} {q : Region} {s : State} (h : s.regions[i] = some q)
    (hp : changePermitted (some q) none s = false) : clearEntry i s = answered 133 .state [] s := by
  simp only [clearEntry, h, hp]
  rfl

/-- CLEAR_REGION of a valid entry (R80). -/
theorem clearEntry_ok {i : Fin 32} {q : Region} {s : State} (h : s.regions[i] = some q)
    (hp : changePermitted (some q) none s = true) :
    clearEntry i s = answered 133 .ok (clearBody (some q) (s.regions.set i none)) (changeRegion i none s) := by
  simp only [clearEntry, h, hp, changeRegion_eq]
  rfl

/-- CLEAR_REGION of an index out of range (R80). -/
theorem doClearRegion_range {index : Byte} (s : State) (h : regionIndex index = none) :
    doClearRegion index s = answered 133 .range [] s := by
  simp only [doClearRegion, h]
  rfl

/-- CLEAR_REGION of an index in range (R80). -/
theorem doClearRegion_index {index : Byte} {i : Fin 32} (s : State) (h : regionIndex index = some i) :
    doClearRegion index s = clearEntry i s := by
  simp only [doClearRegion, h]

/-- The body of a CLEAR_REGION response for a valid entry (R80, R197). -/
theorem clearBody_some (q : Region) (regions : Vector (Option Region) 32) :
    clearBody (some q) regions = BitVec.ofNat 8 (kindCode q.kind) :: totalAndDigest regions := by
  rw [clearBody, beBytes_one]
  rfl

/-! ### Waiting writes made unsettled -/

/-- An entry in use becomes unsettled if it is a write that waits for its forward event (R82). -/
theorem unsettle_used {p : Path} {t : Fin 64} {e : TrackEntry} (h : p.table[t] = .used e) :
    p.unsettle.table[t] =
      .used (if e.req.kind = .write ∧ e.state = .queued then { e with unsettled := true } else e) := by
  have hentry : { e with unsettled := e.unsettled || e.awaitsForward } =
      if e.req.kind = .write ∧ e.state = .queued then { e with unsettled := true } else e := by
    have hiff : e.awaitsForward = true ↔ e.req.kind = .write ∧ e.state = .queued := by simp [TrackEntry.awaitsForward]
    split
    · rw [hiff.2 ‹_›, Bool.or_true]
    · rw [Bool.eq_false_iff.2 (mt hiff.1 ‹_›), Bool.or_false]
  rw [← hentry]
  simp only [Fin.getElem_fin] at h
  simp [Path.unsettle, h]

/-- A tracking entry that is not in use stays as it is (R82). -/
theorem unsettle_unused {p : Path} {t : Fin 64} (h : ∀ e, p.table[t] ≠ .used e) : p.unsettle.table[t] = p.table[t] := by
  simp only [Path.unsettle, Fin.getElem_fin, Vector.getElem_map] at h ⊢
  split
  · exact absurd ‹_› (h _)
  · exact ‹_ = _›.symm
  · exact ‹_ = _›.symm

/-! ### The commands -/

/-- A changed entry under LOAD_REGION (R79, R82). -/
theorem changeRegion_load (i : Fin 32) (r : Region) (s : State) :
    changeRegion i (some r) s = { s with
      regions := s.regions.set i (some r),
      path := if r.isProtected = true ∨ ∃ q ∈ s.regions[i], q.isProtected = true then s.path.unsettle else s.path } := by
  have hiff : ((s.regions[i]).any Region.isProtected || (some r).any Region.isProtected) = true ↔
      r.isProtected = true ∨ ∃ q ∈ s.regions[i], q.isProtected = true := by
    rw [anyProtected_iff]
    exact or_congr_left ⟨fun ⟨q, hq, hp⟩ => Option.some.inj hq ▸ hp, fun hp => ⟨r, rfl, hp⟩⟩
  rw [changeRegion_eq, ite_congr (propext hiff) (fun _ => rfl) (fun _ => rfl)]

/-- A cleared entry under CLEAR_REGION (R80, R82). -/
theorem changeRegion_clear {i : Fin 32} {q : Region} {s : State} (h : s.regions[i] = some q) :
    changeRegion i none s = { s with
      regions := s.regions.set i none, path := if q.isProtected = true then s.path.unsettle else s.path } := by
  rw [changeRegion_eq, h, Option.any_some, Option.any_none, Bool.or_false]

/-- Settles O42: the checks of each command one after another, the change of the table, and the writes made unsettled. -/
theorem regionCommandsChangeTheTable : Obligations.RegionCommandsChangeTheTable := by
  refine ⟨fun s index kind policy base count d hs hd => ⟨fun hrange => ?_, fun i r hi hr => ?_⟩,
    fun s index d hs hd => ⟨fun hrange => ?_, fun i hi => ?_⟩,
    fun p => ⟨rfl, fun t e => unsettle_used, fun t => unsettle_unused⟩⟩
  · exact exec_carriedOut hs hd (doLoadRegion_range s hrange) rfl
  · have hload : ∀ {t : State}, loadChecked i r s = t → exec _ (handed .service d s) = .next t := fun ht =>
      exec_carriedOut hs hd ((doLoadRegion_checked s hi hr).trans ht) rfl
    refine ⟨fun hon hprot => hload (loadChecked_state (changePermitted_false hon ?_)), fun hperm => ?_⟩
    · exact hprot.imp_left fun hr => ⟨r, rfl, hr⟩
    · have hp : changePermitted s.regions[i] (some r) s = true :=
        changePermitted_true (hperm.imp_right fun hprot => ⟨by simpa using hprot.1, hprot.2⟩)
      refine ⟨fun ho => hload (loadChecked_overlap hp ((overlapsOther_iff ..).2 ho)), fun hfree => ?_⟩
      have ho := (overlapsOther_false_iff s.regions i r).2 hfree
      refine ⟨fun hm htotal => hload (loadChecked_capacity hp ho ⟨hm, htotal⟩), fun hfits => ?_⟩
      rw [hload (loadChecked_ok hp ho ?_), changeRegion_load]
      · rfl
      · rintro ⟨hm, htotal⟩
        rcases hfits with hm' | hle
        · rw [hm] at hm'
          cases hm'
        · exact Nat.not_lt.2 hle htotal
  · exact exec_carriedOut hs hd (doClearRegion_range s hrange) rfl
  · have hclear : ∀ {t : State}, clearEntry i s = t → exec _ (handed .service d s) = .next t := fun ht =>
      exec_carriedOut hs hd ((doClearRegion_index s hi).trans ht) rfl
    refine ⟨fun hempty => hclear (clearEntry_empty hempty), fun q hq => ⟨fun hon hprot => ?_, fun hperm => ?_⟩⟩
    · exact hclear (clearEntry_state hq (changePermitted_false hon (.inr ⟨q, rfl, hprot⟩)))
    · have hp : changePermitted (some q) none s = true :=
        changePermitted_true (hperm.imp_right fun hprot => ⟨nofun, by simpa using hprot⟩)
      rw [hclear (clearEntry_ok hq hp), clearBody_some, changeRegion_clear hq]
      cases q.kind <;> rfl

end Sys2Proof.Proofs
end

section
/-! PROOFS. The take of a host request: the class that the region table gives a page, the lowest free tracking entry, and the
three ends of a take, queued, refused or not taken (R6, R58, R59, R69, R71 to R75, R90 to R92, R104). -/
namespace Sys2Proof.Proofs

open Sys2Proof.Machine Sys2Proof.Safety

/-! ### The class of a page -/

/-- The first number that a search in ascending order finds. -/
theorem find?_finRange_iff {n : Nat} (f : Fin n → Bool) (i : Fin n) :
    (List.finRange n).find? f = some i ↔ f i = true ∧ ∀ j, j < i → f j = false := by
  rw [List.find?_eq_some_iff_getElem]
  refine and_congr_right fun _ => ⟨?_, fun h => ⟨i.val, ?_, ?_, fun j hj => ?_⟩⟩
  · rintro ⟨k, hk, hki, h⟩ j hj
    rw [List.getElem_finRange] at hki
    have hjk : j.val < k := by
      rw [← hki] at hj
      exact hj
    have hfj := h j.val hjk
    rwa [List.getElem_finRange, Bool.not_eq_true'] at hfj
  · rw [List.length_finRange]
    exact i.isLt
  · rw [List.getElem_finRange]
    rfl
  · rw [List.getElem_finRange, Bool.not_eq_true']
    exact h _ hj

/-- A table position covers a page exactly if its entry does (R71). -/
theorem coversAt_iff (regions : Vector (Option Region) 32) (page : Nat) (i : Fin 32) :
    coversAt regions page i = true ↔ ∃ r ∈ regions[i], r.covers page = true := by
  unfold coversAt
  cases regions[i] <;> simp

/-- A page that no valid entry covers (R71). -/
theorem regionAt_none {regions : Vector (Option Region) 32} {page : Nat}
    (h : ∀ i : Fin 32, ∀ r ∈ regions[i], r.covers page = false) : regionAt regions page = none := by
  have hnone : regionIndices.find? (coversAt regions page) = none := by
    rw [List.find?_eq_none]
    intro i _ hc
    obtain ⟨r, hr, hc⟩ := (coversAt_iff ..).1 hc
    rw [h i r hr] at hc
    cases hc
  simp only [regionAt, hnone]

/-- The one valid entry that covers a page (R71). -/
theorem regionAt_some {regions : Vector (Option Region) 32} {page : Nat} {i : Fin 32} {r : Region}
    (hr : regions[i] = some r) (hc : r.covers page = true)
    (h : ∀ j : Fin 32, j ≠ i → ∀ q ∈ regions[j], q.covers page = false) : regionAt regions page = some (i, r) := by
  have hfind : regionIndices.find? (coversAt regions page) = some i := by
    refine (find?_finRange_iff _ _).2 ⟨(coversAt_iff ..).2 ⟨r, hr, hc⟩, fun j hj => ?_⟩
    rw [← Bool.not_eq_true, coversAt_iff]
    rintro ⟨q, hq, hqc⟩
    rw [h j (Fin.ne_of_lt hj) q hq] at hqc
    cases hqc
  simp only [regionAt, hfind, hr, Option.map_some]

/-- The class of a page by the entry that covers it (R72). -/
theorem classify_of_regionAt {regions : Vector (Option Region) 32} {page : Nat} {i : Fin 32} {r : Region}
    (h : regionAt regions page = some (i, r)) :
    (∀ p : Policy, r.kind = .mirror p → classify regions page = .mirror i p)
      ∧ (r.kind = .guard → classify regions page = .guard i)
      ∧ (r.kind = .signal → classify regions page = .signal i) := by
  refine ⟨fun p hk => ?_, fun hk => ?_, fun hk => ?_⟩ <;> simp only [classify, h, hk]

/-- A region of kind MIRROR (R70). -/
theorem isMirror_iff (r : Region) : r.isMirror = true ↔ ∃ p, r.kind = .mirror p := by
  unfold Region.isMirror
  cases r.kind <;> simp

/-! ### The choice of a tracking entry, and what a request asks for -/

/-- The free tracking entry with the lowest number (R91). -/
theorem freeEntry_iff (p : Path) (t : Fin 64) : p.freeEntry = some t ↔
    p.table[t] = .free ∧ ∀ u : Fin 64, u < t → p.table[u] ≠ .free := by
  rw [Path.freeEntry, find?_finRange_iff]
  simp only [beq_iff_eq, beq_eq_false_iff_ne]

/-- The writes refused at their take (R73, R74). -/
theorem refusedAtTake_iff (kind : ReqKind) (c : ReqClass) (role : Role) : refusedAtTake kind c role = true ↔
    kind = .write ∧ ((∃ i, c = .guard i) ∨ (role = .replica ∧ ∃ i p, c = .mirror i p)) := by
  cases kind with
  | read => simp [refusedAtTake]
  | write =>
    cases c with
    | mirror i p => cases role <;> simp [refusedAtTake]
    | pass => simp [refusedAtTake]
    | guard i => simp [refusedAtTake]
    | signal i => simp [refusedAtTake]

/-- A session's stream runs in STREAMING and in CATCHUP (R6, R30). -/
theorem capturing_iff (m : MirrorState) : m.capturing = true ↔ m = .streaming ∨ m = .catchup := by
  cases m <;> simp [MirrorState.capturing]

/-- The policies under which a write's completion waits (R56). -/
theorem syncPolicy_isSome_iff (p : Policy) : (syncPolicy p).isSome = true ↔ p ≠ .async := by
  cases p <;> simp [syncPolicy]

/-- The writes that need a pledge (R6, R58). -/
theorem pledgedTake_iff (kind : ReqKind) (c : ReqClass) (s : State) : pledgedTake kind c s = true ↔
    kind = .write ∧ (∃ i p, c = .mirror i p ∧ p ≠ .async) ∧ s.role = .primary
      ∧ (s.mirror.state = .streaming ∨ s.mirror.state = .catchup) := by
  cases kind with
  | read => simp [pledgedTake]
  | write =>
    cases c with
    | mirror i p => simp [pledgedTake, syncPolicy_isSome_iff, capturing_iff, and_assoc]
    | pass => simp [pledgedTake]
    | guard i => simp [pledgedTake]
    | signal i => simp [pledgedTake]

/-! ### The ends of a take -/

/-- A request that is not refused is queued with its class, and with the pledge that it needs (R58, R91, R93). -/
theorem takeInto_queued {t : Fin 64} {req : HostRequest} {s : State} (hsrc : req.source ≠ 255)
    (href : refusedAtTake req.kind (classify s.regions (pageOf req.addr)) s.role = false) :
    takeInto t req s = { s with
      path := { s.path with
        table := s.path.table.set t (.used (newEntry req (some (classify s.regions (pageOf req.addr))) s.role
          (pledgedTake req.kind (classify s.regions (pageOf req.addr)) s))),
        hostQueue := s.path.hostQueue ++ [t] },
      journal := { s.journal with pledges := s.journal.pledges +
        (if pledgedTake req.kind (classify s.regions (pageOf req.addr)) s then 1 else 0) } } := by
  unfold takeInto
  rw [if_neg hsrc]
  dsimp only
  rw [href, if_neg Bool.false_ne_true]
  cases pledgedTake req.kind (classify s.regions (pageOf req.addr)) s <;> rfl

/-- A request answered ERROR at its take (R75, R91). -/
theorem refuseTake_eq (t : Fin 64) (e : TrackEntry) (s : State) :
    refuseTake t e s = { s with path := { s.path with
      table := s.path.table.set t (.used { e with state := .answering, response := some (errorAnswer e.req.kind) }),
      answerQueue := s.path.answerQueue ++ [t] } } := by
  rw [refuseTake, answer_used (p := s.path.occupy t e) _ (getElem_set_same _ _ _)]
  simp only [Path.occupy, Vector.set_set]
  rfl

/-- A request with source 255 is answered ERROR unclassified and reported (R91). -/
theorem takeInto_badSource {t : Fin 64} {req : HostRequest} (s : State) (h : req.source = 255) :
    takeInto t req s = report .badSource (some 255) req.addr none (refuseTake t (newEntry req none s.role false) s) :=
  if_pos h

/-- A refused write is answered ERROR and reported (R73 to R75). -/
theorem takeInto_refused {t : Fin 64} {req : HostRequest} {s : State} (hsrc : req.source ≠ 255)
    (href : refusedAtTake req.kind (classify s.regions (pageOf req.addr)) s.role = true) :
    takeInto t req s = reportRefusal req (classify s.regions (pageOf req.addr))
      (refuseTake t (newEntry req (some (classify s.regions (pageOf req.addr))) s.role false) s) := by
  unfold takeInto
  rw [if_neg hsrc]
  exact if_pos href

/-- A refused write needs no pledge (R6, R73, R74). -/
theorem pledgedTake_of_refused {kind : ReqKind} {c : ReqClass} {s : State} (h : refusedAtTake kind c s.role = true) :
    pledgedTake kind c s = false := by
  rw [← Bool.not_eq_true, pledgedTake_iff]
  rintro ⟨-, ⟨i, p, rfl, -⟩, hrole, -⟩
  rw [refusedAtTake_iff, hrole] at h
  simp at h

/-- A refused write does not wait for room (R90). -/
theorem lacksPledgeRoom_of_refused {req : HostRequest} {s : State}
    (h : refusedAtTake req.kind (classify s.regions (pageOf req.addr)) s.role = true) :
    lacksPledgeRoom req s = false := by
  simp [lacksPledgeRoom, pledgedTake_of_refused h]

/-- A request with source 255 does not wait for room (R90, R91). -/
theorem lacksPledgeRoom_of_badSource {req : HostRequest} {s : State} (h : req.source = 255) :
    lacksPledgeRoom req s = false := by
  simp [lacksPledgeRoom, h]

/-- The head of intake is taken into the lowest free tracking entry, and the request behind it becomes the head (R90). -/
theorem execHostRequestTake_taken {presented : Option HostRequest} {req : HostRequest} {rest : List HostRequest}
    {s : State} {t : Fin 64} (hi : s.path.intake ++ presented.toList = req :: rest) (hrun : s.phase = .running)
    (hf : s.path.freeEntry = some t) (hroom : lacksPledgeRoom req s = false) :
    exec (.hostRequestTake presented) s = .next (takeInto t req (s.withPath { s.path with intake := rest })) := by
  show execHostRequestTake presented s = _
  unfold execHostRequestTake
  dsimp only
  rw [State.withPath_phase, if_pos hrun]
  exact congrArg _ (takeHead_taken (s := s.withPath (s.path.present presented)) hi hf hroom)

/-- A head of intake that is not taken stays presented, as do the requests behind it (R59, R90, R92, R104). -/
theorem execHostRequestTake_waits {presented : Option HostRequest} {s : State}
    (h : s.phase ≠ .running ∨ s.path.intake ++ presented.toList = [] ∨ s.path.freeEntry = none
      ∨ ∀ req ∈ (s.path.intake ++ presented.toList).head?, lacksPledgeRoom req s = true) :
    exec (.hostRequestTake presented) s =
      .next { s with path := { s.path with intake := s.path.intake ++ presented.toList } } := by
  show execHostRequestTake presented s = _
  unfold execHostRequestTake
  dsimp only
  split
  · rename_i hrun
    exact congrArg _ (takeHead_waits (s := s.withPath (s.path.present presented)) (h.resolve_left fun hheld => hheld hrun))
  · rfl

/-- Settles O6: the helpers by their definitions, and then the head of intake taken, or kept waiting. -/
theorem hostRequestIsTakenAndQueued : Obligations.HostRequestIsTakenAndQueued := by
  refine ⟨fun regions page => ⟨fun h => ?_, fun i r hr hlo hhi h => ?_⟩, freeEntry_iff, refusedAtTake_iff,
    pledgedTake_iff, fun presented req rest s hi => ⟨fun t hrun hf hsrc href hroom => ?_, fun h => ?_⟩, fun s hi => ?_⟩
  · have hat := regionAt_none h
    exact ⟨hat, by rw [classify, hat]⟩
  · have hat := regionAt_some hr (decide_eq_true ⟨hlo, hhi⟩) h
    exact ⟨hat, classify_of_regionAt hat⟩
  · have hlacks : lacksPledgeRoom req s = false := by
      rw [← Bool.not_eq_true, lacksPledgeRoom_iff]
      rintro ⟨-, hpledged, hno⟩
      exact hno (hroom hpledged)
    rw [execHostRequestTake_taken hi hrun hf hlacks]
    exact congrArg _ (takeInto_queued (s := s.withPath { s.path with intake := rest }) hsrc href)
  · rw [execHostRequestTake_waits, hi]
    rw [hi]
    exact h.imp_right fun h => .inr (h.imp_right fun hlacks q hq => by
      obtain rfl : req = q := by simpa using hq
      exact (lacksPledgeRoom_iff req s).2 hlacks)
  · rw [execHostRequestTake_waits (.inr (.inl (by rw [hi]; rfl)))]
    simp

/-- A write to a GUARD region, or in the replica role to a MIRROR region, is refused at its take (R73, R74). -/
theorem refusedAtTake_of_regionAt {s : State} {req : HostRequest} {i : Fin 32} {r : Region} (hk : req.kind = .write)
    (hat : regionAt s.regions (pageOf req.addr) = some (i, r))
    (h : r.kind = .guard ∨ (r.isMirror = true ∧ s.role = .replica)) :
    refusedAtTake req.kind (classify s.regions (pageOf req.addr)) s.role = true := by
  obtain ⟨hmirror, hguard, -⟩ := classify_of_regionAt hat
  refine (refusedAtTake_iff ..).2 ⟨hk, ?_⟩
  rcases h with hg | ⟨hm, hrole⟩
  · exact .inl ⟨i, hguard hg⟩
  · obtain ⟨p, hp⟩ := (isMirror_iff r).1 hm
    exact .inr ⟨hrole, i, p, hmirror p hp⟩

/-- The record of a refused write, by the entry that covers its page (R75). -/
theorem reportRefusal_of_regionAt {regions : Vector (Option Region) 32} {req : HostRequest} {i : Fin 32} {r : Region}
    (s : State) (hat : regionAt regions (pageOf req.addr) = some (i, r)) (h : r.kind = .guard ∨ r.isMirror = true) :
    reportRefusal req (classify regions (pageOf req.addr)) s =
      report (if r.kind = .guard then .guardRefused else .replicaRefused) (some req.source) req.addr (some i) s := by
  obtain ⟨hmirror, hguard, -⟩ := classify_of_regionAt hat
  by_cases hg : r.kind = .guard
  · rw [hguard hg, if_pos hg]
    rfl
  · obtain ⟨p, hp⟩ := (isMirror_iff r).1 (h.resolve_left hg)
    rw [hmirror p hp, if_neg hg]
    rfl

/-- The answer to a refused request: ERROR, with 64 zero bytes for a READ (R86, R91). -/
theorem errorAnswer_eq (kind : ReqKind) : errorAnswer kind =
    { status := .error, data := if kind = .read then List.replicate 64 0 else [] } := by
  cases kind <;> rfl

/-- Settles O7: the entry goes to ANSWERING at its take, and the report names the entry that covers the page. -/
theorem refusedRequestIsAnsweredAtItsTake : Obligations.RefusedRequestIsAnsweredAtItsTake := by
  intro presented req rest s t hi hrun hf
  refine ⟨fun i r hsrc hk hat hrefused => ?_, fun hsrc => ?_⟩
  · have href := refusedAtTake_of_regionAt hk hat hrefused
    rw [execHostRequestTake_taken hi hrun hf (lacksPledgeRoom_of_refused href)]
    refine congrArg _ ((takeInto_refused (s := s.withPath { s.path with intake := rest }) hsrc href).trans ?_)
    refine (reportRefusal_of_regionAt _ hat (hrefused.imp_right And.left)).trans ?_
    rw [refuseTake_eq, newEntry, errorAnswer_eq, hk]
    rfl
  · rw [execHostRequestTake_taken hi hrun hf (lacksPledgeRoom_of_badSource hsrc), takeInto_badSource _ hsrc,
      refuseTake_eq, newEntry, errorAnswer_eq]
    rfl

end Sys2Proof.Proofs
end

section
/-! PROOFS. What a relation between the part before and after needs so that a step keeps it: a relation that an effect keeps
is kept under a condition, in the running part, by the owner of a line and by the service port (R104, R111, R142, R189,
R190). -/
namespace Sys2Proof.Proofs

open Sys2Proof.Machine Sys2Proof.Safety

/-- A relation between the part before and after that reads no line and no counter, and holds where nothing changes. -/
structure StepRelation (R : State → State → Prop) : Prop where
  refl : ∀ s, R s s
  line : ∀ (l : LineId) (x : Line) {s t : State}, R (withLine l x s) t → R s t
  bump : ∀ (c : Counter) (s : State), R s (bump c s)

/-- An effect leads from every state to one that it is related to. -/
def Moves (R : State → State → Prop) (f : State → State) : Prop :=
  ∀ s : State, R s (f s)

/-- A command's meaning leads from every state to one that it is related to. -/
def StepMoves (R : State → State → Prop) (r : State → Result) : Prop :=
  ∀ s t : State, r s = .next t → R s t

section
variable {R : State → State → Prop}

/-- A step that carries its effect out in every phase. -/
theorem Moves.next {f : State → State} (h : Moves R f) : StepMoves R (fun s => .next (f s)) := by
  intro s t ht
  cases ht
  exact h s

/-- An effect under a condition. -/
theorem StepRelation.when (hR : StepRelation R) {f : State → State} (h : Moves R f) (c : State → Prop)
    [∀ s, Decidable (c s)] : Moves R (fun s => if c s then f s else s) := by
  intro s
  dsimp only
  split
  · exact h s
  · exact hR.refl s

/-- A step of the running part (R104). -/
theorem StepRelation.live (hR : StepRelation R) {f : State → State} (h : Moves R f) : StepMoves R (live f) :=
  (hR.when h (fun s => s.phase = .running)).next

/-- A delivery handled in the part without it (R142). -/
theorem StepRelation.takeDelivery (hR : StepRelation R) (l : LineId) {handle : Delivery → State → Option State}
    (h : ∀ d s t, handle d s = some t → R s t) : Moves R (takeDelivery l handle) := by
  intro s
  rcases takeDelivery_cases l handle s with ⟨-, heq⟩ | ⟨d, rest, -, ⟨-, heq⟩ | ⟨t, ht, heq⟩⟩
  · rw [heq]
    exact hR.refl s
  · rw [heq]
    exact hR.refl s
  · rw [heq]
    exact hR.line l _ (h d _ t ht)

/-- A mirror-link frame discarded or taken (R111, R142). -/
theorem StepRelation.takeFrame (hR : StepRelation R) (f : LinkFrame) {act : State → State} (h : Moves R act) :
    Moves R (takeFrame f act) := by
  have hjudged : Moves R (judged f act) := by
    intro s
    unfold judged
    split
    · exact hR.bump _ s
    · exact h s
  refine hR.takeDelivery .link fun d s t ht => ?_
  split at ht
  · cases ht
    exact hjudged s
  · cases ht

/-- A service frame dropped without a free place, and otherwise handled (R189). -/
theorem StepRelation.withPlace (hR : StepRelation R) {act : State → State} (h : Moves R act) :
    Moves R (withPlace act) := by
  intro s
  unfold Machine.withPlace
  split
  · exact hR.bump _ s
  · exact h s

/-- A command answered BUSY while the slot is occupied, and otherwise carried out (R190). -/
theorem Moves.throughSlot {code : Nat} {act : State → State} (h : Moves R act)
    (hbusy : ∀ body, Moves R (respond code .busy body)) : Moves R (throughSlot code act) := by
  intro s
  unfold Machine.throughSlot
  split
  · exact h s
  · exact hbusy _ s

/-- A command frame taken by the service port (R142, R187). -/
theorem StepRelation.takeCommand (hR : StepRelation R) (c : Instr) {act : State → State} (h : Moves R act) :
    StepMoves R (takeCommand c act) := by
  refine hR.live (hR.takeDelivery .service fun d s t ht => ?_)
  split at ht
  · cases ht
    exact h s
  · cases ht

/-- A command served by the port and the slot (R189, R190). -/
theorem StepRelation.serve (hR : StepRelation R) (c : Instr) {code : Nat} {act : State → State} (h : Moves R act)
    (hbusy : ∀ body, Moves R (respond code .busy body)) : StepMoves R (serve c code act) :=
  hR.takeCommand c (hR.withPlace (h.throughSlot hbusy))

end

end Sys2Proof.Proofs
end

section
/-! PROOFS. How a step changes the region table and the parameters: not at all, to their values after reset, or by one entry
or one parameter that passed its checks (R70, R77, R80, R193, R194). -/
namespace Sys2Proof.Proofs

open Sys2Proof.Machine Sys2Proof.Safety

/-- The region table and the parameters of the part. -/
structure Settings where
  regions : Vector (Option Region) 32
  params  : Vector Nat 12

/-- The settings of a part. -/
def settings (s : State) : Settings :=
  { regions := s.regions, params := s.params }

/-- What one step can do to the settings (R77, R79, R80, R193, R194). -/
inductive SettingsChange (a : Settings) : Settings → Prop where
  | same : SettingsChange a a
  | reset : SettingsChange a (settings State.reset)
  | param (p : Param) (v : Nat) (hrange : paramMin p ≤ v ∧ v ≤ paramMax p) :
      SettingsChange a { a with params := a.params.set (paramNumber p) v }
  | load (i : Fin 32) (r : Region) (hbounds : regionInBounds r) (hfree : overlapsOther a.regions i r = false)
      (hfits : ¬(r.isMirror = true ∧ 65536 < mirrorPageTotal (a.regions.set i (some r)))) :
      SettingsChange a { a with regions := a.regions.set i (some r) }
  | clear (i : Fin 32) : SettingsChange a { a with regions := a.regions.set i none }

/-- The settings after a step come about from those before it. -/
def Configures (s t : State) : Prop :=
  SettingsChange (settings s) (settings t)

/-- Settings left as they were. -/
theorem Configures.of_settings {s t : State} (h : settings t = settings s) : Configures s t := by
  rw [Configures, h]
  exact .same

/-- A line replaced (R142). -/
theorem settings_withLine (l : LineId) (x : Line) (s : State) : settings (withLine l x s) = settings s := by
  cases l <;> rfl

/-- The settings are kept by lines and counters. -/
theorem stepRelation_configures : StepRelation Configures where
  refl _ := .same
  line l x s t h := by rwa [Configures, settings_withLine] at h
  bump _ _ := .same

/-! ### Effects that leave the settings as they are -/

/-- An effect that leaves the settings as they are. -/
def KeepsSettings (f : State → State) : Prop :=
  ∀ s : State, settings (f s) = settings s

/-- An effect that keeps the settings changes them in no way. -/
theorem KeepsSettings.moves {f : State → State} (h : KeepsSettings f) : Moves Configures f :=
  fun s => .of_settings (h s)

/-- A step of the running part that keeps the settings (R104). -/
theorem KeepsSettings.live {f : State → State} (h : KeepsSettings f) : StepMoves Configures (Machine.live f) :=
  stepRelation_configures.live h.moves

/-- A step of the running part that keeps the settings, under a condition (R104). -/
theorem KeepsSettings.liveWhen {f : State → State} (h : KeepsSettings f) (c : State → Prop) [∀ s, Decidable (c s)] :
    StepMoves Configures (Machine.live (fun s => if c s then f s else s)) :=
  stepRelation_configures.live (stepRelation_configures.when h.moves c)

/-- A command served by the port and the slot (R189, R190). -/
theorem serve_configures (c : Instr) (code : Nat) {act : State → State} (h : Moves Configures act) :
    StepMoves Configures (serve c code act) :=
  stepRelation_configures.serve c h fun _ _ => .same

/-- A command whose effect keeps the settings. -/
theorem KeepsSettings.serve (c : Instr) (code : Nat) {act : State → State} (h : KeepsSettings act) :
    StepMoves Configures (serve c code act) :=
  serve_configures c code h.moves

/-- A report to the exception list (R176). -/
theorem settings_report (k : ExceptionKind) (src : Option Byte) (a : LineAddr) (i : Option (Fin 32)) (s : State) :
    settings (report k src a i s) = settings s := by
  rw [report_frame]; rfl

/-- STOP NOW in the primary role (R48). -/
theorem settings_stopPrimary : KeepsSettings stopPrimary := by
  intro s
  rw [stopPrimary_frame]; rfl

/-- What a stopped replica side changes (R148, R149). -/
theorem settings_stopReplica : KeepsSettings stopReplica := by
  intro s
  unfold stopReplica
  split <;> rfl

/-- A session lost in UP (R46, R47, R52). -/
theorem settings_sessionLost (cause : LossCause) : KeepsSettings (sessionLost cause) := by
  intro s
  rcases sessionLost_cases cause s with ⟨-, h⟩ | ⟨-, h⟩ | ⟨-, h⟩
  · rw [h, convert_frame]; rfl
  · rw [h, stopMirror_frame]; rfl
  · rw [h]; rfl

/-- The retry counter compared with its limit (R127). -/
theorem settings_checkRetry : KeepsSettings checkRetry := by
  intro s
  unfold checkRetry
  split
  · exact settings_sessionLost _ s
  · rfl

/-- A frame out of range (R124). -/
theorem settings_protocolLoss : KeepsSettings protocolLoss :=
  fun _ => settings_sessionLost .protocol _

/-- The oldest entries removed on an acknowledgement (R21, R62). -/
theorem settings_removeAcked (d : Nat) : KeepsSettings (removeAcked d) := by
  intro s
  rw [removeAcked_eq]; rfl

/-- A retirement (R163, R164). -/
theorem settings_retire (f : QueuedFrame) (rest : List QueuedFrame) : KeepsSettings (retire f rest) := by
  intro s
  rw [retire_frame]; rfl

/-- A HELLO judged (R151, R152). -/
theorem settings_judgeHello (n : Byte) (h : HelloBody) : KeepsSettings (judgeHello n h) := by
  intro s
  rw [judgeHello_frame]; rfl

/-- A frame under collection abandoned (R140). -/
theorem settings_abandonFrame (l : LineId) : KeepsSettings (abandonFrame l) := by
  intro s
  unfold abandonFrame
  split <;> exact settings_withLine ..

/-- A change of role (R82, R170). -/
theorem settings_changeRole (role : Role) : KeepsSettings (changeRole role) := by
  intro s
  cases role <;> rfl

/-- The part's own side stopped by a soft reset (R202). -/
theorem settings_softStop : KeepsSettings softStop := by
  intro s
  unfold softStop
  split
  · rfl
  · split
    · exact settings_stopPrimary s
    · exact settings_stopReplica s

/-- The completion of a soft reset (R203). -/
theorem settings_completeSoftReset : KeepsSettings completeSoftReset := by
  intro s
  unfold completeSoftReset
  split <;> rfl

/-! ### The memory path's steps -/

/-- A head of intake taken into a tracking entry (R75, R91). -/
theorem settings_takeInto (t : Fin 64) (req : HostRequest) : KeepsSettings (takeInto t req) := by
  intro s
  unfold takeInto
  dsimp only
  split
  · exact settings_report ..
  · split
    · unfold reportRefusal
      split
      · exact settings_report ..
      · exact settings_report ..
      · rfl
      · rfl
    · split <;> rfl

/-- The head of intake taken if it can be (R90). -/
theorem settings_takeHead : KeepsSettings takeHead := by
  intro s
  unfold takeHead
  split
  · split
    · rfl
    · exact settings_takeInto ..
  · rfl

/-- HOST_REQUEST_TAKE (R90, R91, R104). -/
theorem execHostRequestTake_configures (presented : Option HostRequest) :
    StepMoves Configures (execHostRequestTake presented) := by
  refine Moves.next (KeepsSettings.moves fun s => ?_)
  split
  · exact settings_takeHead _
  · rfl

/-- The capture of a mirror write in STREAMING or CATCHUP (R30, R31, R60). -/
theorem settings_captureStreaming (t : Fin 64) (e : TrackEntry) (i : Fin 32) (p : Policy) (s : State) :
    settings (captureStreaming t e i p s).state = settings s := by
  unfold captureStreaming
  split <;> split <;> rfl

/-- The capture decision (R30 to R32). -/
theorem settings_captureWrite (t : Fin 64) (e : TrackEntry) (s : State) :
    settings (captureWrite t e s).state = settings s := by
  have hmark : ∀ i, settings (captureMark t e i s).state = settings s := by
    intro i
    unfold captureMark
    split <;> rfl
  unfold captureWrite
  split
  · unfold captureMirror
    split
    · rfl
    · rfl
    · rfl
    · exact settings_captureStreaming ..
    · exact settings_captureStreaming ..
    · rfl
  · unfold captureSignal
    split
    · split
      · rfl
      · rfl
      · rfl
      · exact hmark _
      · exact hmark _
      · rfl
    · exact settings_report ..
  · rfl

/-- The oldest request of the host queue granted (R95, R96). -/
theorem settings_grantHost (t : Fin 64) (ts : List (Fin 64)) : KeepsSettings (grantHost t ts) := by
  intro s
  unfold grantHost
  split
  · unfold forward
    split
    · rfl
    · refine (settings_captureWrite ..).trans ?_
      rw [givePledge_frame]; rfl
  · rfl
  · rfl

/-- The oldest request of the internal source granted (R95, R96). -/
theorem settings_grantOwn (u : Fin 8) (us : List (Fin 8)) : KeepsSettings (grantOwn u us) := by
  intro s
  unfold grantOwn
  split <;> rfl

/-- The arbiter's choice (R95). -/
theorem settings_arbitrate : KeepsSettings arbitrate := by
  intro s
  unfold arbitrate
  split
  · rfl
  · exact settings_grantHost ..
  · exact settings_grantOwn ..
  · split
    · exact settings_grantOwn ..
    · exact settings_grantHost ..

/-- The response to a forwarded host request (R98, R99). -/
theorem settings_hostAnswered (t : Fin 64) (e : TrackEntry) (st : MemStatus) (data : List Byte) :
    KeepsSettings (hostAnswered t e st data) := by
  have htell : KeepsSettings (tellJournal t e st) := by
    intro s
    unfold tellJournal
    split <;> rfl
  have hdecide : ∀ rule, KeepsSettings (decideWrite t rule st) := by
    intro rule s
    unfold decideWrite
    split <;> rfl
  intro s
  unfold hostAnswered
  split
  · rfl
  · exact (hdecide _ _).trans (htell s)

/-- The PAGE entry of a chunk appended, and the sweep advanced (R11, R39, R40). -/
theorem settings_completeChunk (r : Reservation) : KeepsSettings (completeChunk r) := by
  have hend : ∀ c, KeepsSettings (endCopy c) := by
    intro c s
    unfold endCopy
    split <;> rfl
  intro s
  unfold completeChunk
  dsimp only
  split
  · split
    · exact hend ..
    · rfl
  · rfl

/-- A line read of a chunk answered (R8, R39, R41, R101). -/
theorem settings_sweepAnswered (line : Fin 4) (st : MemStatus) (data : List Byte) :
    KeepsSettings (sweepAnswered line st data) := by
  have hend : ∀ r, KeepsSettings (endChunk r) := by
    intro r s
    unfold endChunk
    split
    · rfl
    · split
      · exact settings_report ..
      · exact settings_completeChunk ..
  intro s
  unfold sweepAnswered
  split
  · rfl
  · dsimp only
    split
    · rfl
    · exact hend ..

/-- An apply write answered (R162, R168). -/
theorem settings_applyAnswered (a : LineAddr) (st : MemStatus) : KeepsSettings (applyAnswered a st) := by
  have hstarted : KeepsSettings retireStarted := by
    intro s
    unfold retireStarted
    split
    · split
      · exact settings_retire ..
      · rfl
    · rfl
  intro s
  unfold applyAnswered
  split
  · rfl
  · dsimp only
    split
    · split
      · rw [applyFault_frame]; rfl
      · exact hstarted _
    · rfl

/-- A response with source 255 (R97, R101, R103). -/
theorem settings_matchOwn (tag : Fin 64) (st : MemStatus) (data : List Byte) : KeepsSettings (matchOwn tag st data) := by
  intro s
  unfold matchOwn
  split
  · rfl
  · split
    · unfold ownAnswered
      split
      · exact settings_sweepAnswered ..
      · exact settings_applyAnswered ..
    · rfl
    · rfl
    · rfl

/-- A response with a host source (R97, R103). -/
theorem settings_matchHost (source : Byte) (t : Fin 64) (st : MemStatus) (data : List Byte) :
    KeepsSettings (matchHost source t st data) := by
  intro s
  unfold matchHost
  split
  · split
    · exact settings_hostAnswered ..
    · rfl
  · split <;> rfl
  · rfl

/-- MEMORY_RESPONSE (R97, R104). -/
theorem execMemoryResponse_configures (source : Byte) (tag : Fin 64) (st : MemStatus) (data : List Byte) :
    StepMoves Configures (execMemoryResponse source tag st data) := by
  refine Moves.next (KeepsSettings.moves fun s => ?_)
  split
  · exact settings_matchOwn ..
  · exact settings_matchHost ..

/-- The oldest response passed back (R102). -/
theorem settings_passBack : KeepsSettings passBack := by
  intro s
  unfold passBack
  split
  · rfl
  · split
    · split <;> rfl
    · rfl
    · rfl

/-- CHUNK_READ_ISSUE (R38). -/
theorem execChunkReadIssue_configures : StepMoves Configures execChunkReadIssue := by
  have hissue : ∀ c, KeepsSettings (issueChunk c) := by
    intro c s
    unfold issueChunk
    split
    · rfl
    · split <;> rfl
  refine KeepsSettings.live fun s => ?_
  split
  · split
    · exact hissue _ s
    · rfl
  · rfl

/-- The oldest unstarted frame started (R94, R162). -/
theorem settings_startNext : KeepsSettings startNext := by
  intro s
  unfold startNext
  split
  · split
    · unfold startFrame
      split
      · exact settings_retire ..
      · split <;> rfl
    · rfl
  · rfl

/-! ### The link unit's steps -/

/-- The level at the HOLD connection (R121 to R123, R138). -/
theorem execHold_configures : StepMoves Configures execHoldAsserted ∧ StepMoves Configures execHoldWithdrawn := by
  constructor
  · refine Moves.next (KeepsSettings.moves fun s => ?_)
    split <;> rfl
  · refine Moves.next (KeepsSettings.moves fun s => ?_)
    split <;> rfl

/-- HELLO_TIMER_EXPIRY (R115). -/
theorem settings_helloExpired : KeepsSettings helloExpired := by
  intro s
  unfold helloExpired
  dsimp only
  split
  · split <;> rfl
  · rfl

/-- HOLD_TIMER_EXPIRY (R122). -/
theorem settings_holdExpired : KeepsSettings holdExpired := by
  intro s
  unfold holdExpired
  split
  · rfl
  · exact settings_sessionLost _ s
  · rfl

/-- ACK_TIMER_EXPIRY (R127). -/
theorem settings_ackExpired : KeepsSettings ackExpired :=
  fun _ => settings_checkRetry _

/-- DRAIN_TIMER_EXPIRY (R53). -/
theorem settings_drainExpired : KeepsSettings (fun s => endDrain .timeout [] (stopPrimary s)) :=
  settings_stopPrimary

/-- DRAIN_NORMAL_END (R51). -/
theorem settings_endDrainNormally : KeepsSettings endDrainNormally :=
  settings_stopPrimary

/-- FRAME_DISCARDED (R111, R142). -/
theorem execFrameDiscarded_configures (d : Delivery) : StepMoves Configures (execFrameDiscarded d) := by
  refine stepRelation_configures.live (stepRelation_configures.takeDelivery .link fun x s t ht => ?_)
  split at ht
  · obtain ⟨c, -, rfl⟩ := Option.map_eq_some_iff.1 ht
    exact .same
  · cases ht

/-- HELLO_ROLE_CONFLICT (R131). -/
theorem execHelloRoleConflict_configures (session : Byte) : StepMoves Configures (execHelloRoleConflict session) := by
  have hconflict : KeepsSettings (roleConflict session) := by
    intro s
    unfold roleConflict
    dsimp only
    split <;> rfl
  refine stepRelation_configures.live fun s => ?_
  split
  · refine stepRelation_configures.takeDelivery .link (fun d s t ht => ?_) s
    split at ht
    · cases ht
      exact hconflict.moves s
    · cases ht
  · exact .same

/-- A frame taken whatever the role (R111, R142). -/
theorem KeepsSettings.takeFrame (f : LinkFrame) {act : State → State} (h : KeepsSettings act) :
    StepMoves Configures (Machine.live (Machine.takeFrame f act)) :=
  stepRelation_configures.live (stepRelation_configures.takeFrame f h.moves)

/-- A WELCOME of the current attempt, by its result (R116). -/
theorem settings_welcomed (result : WelcomeResult) : KeepsSettings (welcomed result) := by
  intro s
  unfold welcomed
  split
  · split <;> rfl
  · rfl
  · rfl

/-- BYE_TAKEN (R117, R128). -/
theorem execByeTaken_configures (session : Byte) (reason : ByeReason) :
    StepMoves Configures (execByeTaken session reason) := by
  have hleft : KeepsSettings (peerLeft reason) := by
    intro s
    unfold peerLeft
    split
    · rfl
    · exact settings_sessionLost _ s
    · rfl
  refine stepRelation_configures.live fun s => ?_
  split
  · exact stepRelation_configures.takeFrame _ hleft.moves s
  · exact .same

/-- An ACK in range or out of it (R124, R125). -/
theorem settings_ackArrived (n : SeqNum) : KeepsSettings (ackArrived n) := by
  intro s
  unfold ackArrived
  dsimp only
  split
  · exact settings_protocolLoss s
  · split
    · rfl
    · exact settings_removeAcked _ s

/-- A NAK in range or out of it (R124, R126). -/
theorem settings_nakArrived (n : SeqNum) : KeepsSettings (nakArrived n) := by
  have hremoved : ∀ d : Nat, KeepsSettings (fun s => if d = 0 then s else removeAcked d s) := by
    intro d s
    dsimp only
    split
    · rfl
    · exact settings_removeAcked d s
  intro s
  unfold nakArrived
  dsimp only
  split
  · exact settings_protocolLoss s
  · exact (settings_checkRetry _).trans (hremoved _ s)

/-- The next frame of the link unit begins (R119, R120). -/
theorem settings_sendNext : KeepsSettings sendNext := by
  intro s
  unfold sendNext
  split
  · rfl
  · split
    · split
      · unfold sendEntry
        dsimp only
        split <;> rfl
      · rfl
    · rfl

/-! ### The character layer's steps -/

/-- A received character (R139, R140). -/
theorem settings_receive (l : LineId) (c : Character) : KeepsSettings (receive l c) := by
  have happend : ∀ bs, KeepsSettings (appendByte l bs c.data) := by
    intro bs s
    unfold appendByte
    split
    · exact settings_withLine ..
    · exact settings_withLine l _ s
  have hgood : KeepsSettings (goodCharacter l c) := by
    intro s
    unfold goodCharacter
    split
    · exact (settings_withLine ..).trans (settings_abandonFrame l s)
    · split
      · exact happend _ s
      · rfl
  intro s
  unfold receive
  split
  · rfl
  · dsimp only
    split
    · exact hgood _
    · exact settings_abandonFrame l _
    · exact (settings_withLine ..).trans (settings_abandonFrame l _)

/-- The end of a transmission (R114, R123, R136, R137). -/
theorem settings_endTx (l : LineId) : KeepsSettings (endTx l) := by
  have hlink : ∀ f, KeepsSettings (linkSent f) := by
    intro f s
    unfold linkSent
    split
    · unfold helloSent
      split <;> rfl
    · unfold sequencedSent
      split <;> rfl
    all_goals rfl
  have hsent : ∀ c, KeepsSettings (frameSent c) := by
    intro c
    cases c with
    | link f => exact hlink f
    | response r => exact fun _ => rfl
  intro s
  unfold endTx
  split
  · split
    · rfl
    · exact (hsent _ _).trans (settings_withLine ..)
  · rfl

/-- A response begun (R189). -/
theorem settings_sendResponse : KeepsSettings sendResponse := by
  intro s
  unfold sendResponse
  split <;> rfl

/-! ### The replica apply unit's steps -/

/-- HELLO_TAKEN (R150 to R154). -/
theorem execHelloTaken_configures (session : Byte) (h : HelloBody) :
    StepMoves Configures (execHelloTaken session h) := by
  have harrived : KeepsSettings (helloArrived session h) := by
    intro s
    unfold helloArrived
    split
    · split
      · unfold helloAgain
        split <;> rfl
      · exact settings_judgeHello ..
    · exact settings_judgeHello ..
    · rfl
  refine stepRelation_configures.live fun s => ?_
  split
  · exact stepRelation_configures.takeFrame _ harrived.moves s
  · exact .same

/-- A sequenced frame of the current session (R155 to R159). -/
theorem settings_sequencedArrived (n : SeqNum) (b : SeqBody) : KeepsSettings (sequencedArrived n b) := by
  have henqueue : ∀ i, KeepsSettings (enqueue n b i) := by
    intro i s
    unfold enqueue
    split <;> rfl
  have hinOrder : KeepsSettings (inOrder n b) := by
    intro s
    unfold inOrder
    split
    · exact henqueue _ s
    · split
      · exact henqueue _ s
      · rfl
  intro s
  unfold sequencedArrived
  dsimp only
  split
  · exact hinOrder s
  · split <;> rfl

/-- REPLICA_BYE_TAKEN (R169). -/
theorem execReplicaByeTaken_configures (session : Byte) (reason : ByeReason) :
    StepMoves Configures (execReplicaByeTaken session reason) := by
  have hleave : KeepsSettings (leaveSession none .listening) := fun _ => rfl
  refine stepRelation_configures.live fun s => ?_
  split
  · exact stepRelation_configures.takeFrame _ hleave.moves s
  · exact .same

/-- The oldest frame of the reply list begins (R165). -/
theorem settings_sendReply : KeepsSettings sendReply := by
  intro s
  unfold sendReply
  split <;> rfl

/-! ### The service port's steps -/

/-- SERVICE_FRAME_REJECTED (R187, R189). -/
theorem execServiceFrameRejected_configures (d : Delivery) : StepMoves Configures (execServiceFrameRejected d) := by
  have hreject : ∀ x s t, rejectDelivery x s = some t → Configures s t := by
    intro x s t ht
    unfold rejectDelivery at ht
    split at ht
    · cases ht
      exact .same
    · split at ht
      · cases ht
      · cases ht
        exact Moves.throughSlot (act := respond _ _ _) (fun _ => .same) (fun _ _ => .same) s
  refine stepRelation_configures.live (stepRelation_configures.takeDelivery .service fun x s t ht => ?_)
  split at ht
  · split at ht
    · cases ht
      exact .same
    · exact hreject x s t ht
  · cases ht

/-- SERVICE_FRAME_DROPPED (R189). -/
theorem execServiceFrameDropped_configures : StepMoves Configures execServiceFrameDropped := by
  refine stepRelation_configures.live (stepRelation_configures.takeDelivery .service fun x s t ht => ?_)
  split at ht
  · cases ht
    exact .same
  · cases ht

/-- STATUS (R192). -/
theorem settings_doStatus (group : Byte) : KeepsSettings (doStatus group) := by
  intro s
  unfold doStatus
  split <;> rfl

/-- READ_PARAM (R193). -/
theorem settings_doReadParam (number : Byte) : KeepsSettings (doReadParam number) := by
  intro s
  unfold doReadParam
  split <;> rfl

/-- WRITE_PARAM stores a value that is in its parameter's range (R193, R194). -/
theorem doWriteParam_configures (number : Byte) (value : BitVec 16) : Moves Configures (doWriteParam number value) := by
  have hpend : ∀ p v, KeepsSettings (pendDivisor p v) := by
    intro p v s
    cases p <;> rfl
  intro s
  unfold doWriteParam
  split
  · exact .same
  · rename_i p _
    split
    · exact .same
    · rename_i hrange
      split
      · exact .same
      · show SettingsChange (settings s) (settings (pendDivisor p value.toNat (setParam p value.toNat s)))
        rw [hpend]
        exact .param p value.toNat (by omega)

/-- A region that LOAD_REGION's body gives is within bounds (R70, R77). -/
theorem loadedRegion_inBounds {base count : BitVec 32} {kind policy : Byte} {r : Region}
    (h : loadedRegion base count kind policy = some r) : regionInBounds r := by
  unfold loadedRegion at h
  split at h
  · cases h
  · split at h
    · rename_i hc
      cases h
      exact ⟨hc.2.1, hc.2.2.1, hc.2.2.2⟩
    · cases h

/-- The settings after an entry of the region table changed (R79). -/
theorem settings_changeRegion (i : Fin 32) (new : Option Region) (s : State) :
    settings (changeRegion i new s) = { settings s with regions := s.regions.set i new } := by
  rw [changeRegion_eq]; rfl

/-- LOAD_REGION puts an entry that passed its checks into the table (R77, R79). -/
theorem doLoadRegion_configures (index : Byte) (base count : BitVec 32) (kind policy : Byte) :
    Moves Configures (doLoadRegion index base count kind policy) := by
  intro s
  unfold doLoadRegion
  split
  · rename_i i r _ hr
    unfold loadChecked
    split
    · exact .same
    · split
      · exact .same
      · rename_i hfree
        split
        · exact .same
        · rename_i hfits
          show SettingsChange (settings s) (settings (changeRegion i (some r) s))
          rw [settings_changeRegion]
          exact .load i r (loadedRegion_inBounds hr) (Bool.eq_false_iff.2 hfree) (by rwa [← capacityFails_iff])
  · exact .same

/-- CLEAR_REGION empties an entry of the table (R80). -/
theorem doClearRegion_configures (index : Byte) : Moves Configures (doClearRegion index) := by
  intro s
  unfold doClearRegion
  split
  · rename_i i _
    unfold clearEntry
    split
    · exact .same
    · split
      · exact .same
      · show SettingsChange (settings s) (settings (changeRegion i none s))
        rw [settings_changeRegion]
        exact .clear i
  · exact .same

/-- READ_REGION (R81). -/
theorem settings_doReadRegion (index : Byte) : KeepsSettings (doReadRegion index) := by
  intro s
  unfold doReadRegion
  split <;> rfl

/-- START, in either form (R43, R148, R195). -/
theorem settings_doStart (m : State → Mirror) : KeepsSettings (doStart m) := by
  intro s
  unfold doStart
  split
  · rfl
  · split
    · rfl
    · split <;> rfl

/-- STOP NOW (R48, R148). -/
theorem settings_doStopNow : KeepsSettings doStopNow := by
  intro s
  unfold doStopNow
  split
  · rfl
  · split
    · exact settings_stopPrimary s
    · exact settings_stopReplica s

/-- STOP DRAIN (R49). -/
theorem settings_doStopDrain : KeepsSettings doStopDrain := by
  intro s
  unfold doStopDrain
  split <;> rfl

/-- ABORT (R53, R191). -/
theorem execAbort_configures : StepMoves Configures execAbort := by
  refine stepRelation_configures.takeCommand _ (stepRelation_configures.withPlace fun s => ?_)
  unfold doAbort
  split
  · exact settings_stopPrimary.moves _
  · exact .same
  · exact .same

/-- RESYNC (R54). -/
theorem settings_doResync (scope : ResyncScope) : KeepsSettings (doResync scope) := by
  intro s
  unfold doResync
  split
  · rfl
  · split
    · rfl
    · split <;> rfl

/-- READ_COUNTERS (R198). -/
theorem settings_doReadCounters (number : Byte) : KeepsSettings (doReadCounters number) := by
  intro s
  unfold doReadCounters
  split <;> rfl

/-- CLEAR_COUNTERS (R198). -/
theorem settings_doClearCounters (number : Byte) : KeepsSettings (doClearCounters number) := by
  intro s
  unfold doClearCounters
  split
  · rfl
  · split <;> rfl

/-- SET_ROLE (R170, R200). -/
theorem settings_doSetRole (role : Byte) : KeepsSettings (doSetRole role) := by
  intro s
  unfold doSetRole
  split
  · unfold setRoleChecked
    split
    · rfl
    · split
      · rfl
      · split
        · rfl
        · exact settings_changeRole ..
  · rfl

/-- PROMOTE (R171, R201). -/
theorem settings_doPromote (force : Byte) : KeepsSettings (doPromote force) := by
  have hperform : KeepsSettings performPromote := by
    intro s
    unfold performPromote
    split <;> rfl
  intro s
  unfold doPromote
  split
  · rfl
  · split
    · rfl
    · split
      · rfl
      · split
        · rfl
        · exact hperform s

/-- SOFT_RESET (R202, R203). -/
theorem settings_doSoftReset : KeepsSettings doSoftReset := by
  intro s
  calc settings (doSoftReset s)
      = settings (beginSoftReset s) := settings_completeSoftReset _
    _ = settings (abandonFrame .link ((softStop s).withLink (softStop s).link.quiet)) := settings_abandonFrame .service _
    _ = settings (softStop s) := settings_abandonFrame .link _
    _ = settings s := settings_softStop s

/-- SOFT_RESET_COMPLETE (R203). -/
theorem execSoftResetComplete_configures : StepMoves Configures execSoftResetComplete := by
  refine KeepsSettings.live fun s => ?_
  split
  · exact settings_completeSoftReset s
  · rfl
  · rfl

/-! ### Resets -/

/-- BOARD_RESET_ASSERT (R85, R193). -/
theorem execBoardResetAssert_configures : StepMoves Configures execBoardResetAssert := by
  refine Moves.next fun s => ?_
  split
  · exact .reset
  · exact .same

/-- The ends of the two resets (R104, R199). -/
theorem execResetEnd_configures (strapHigh : Bool) :
    StepMoves Configures (execBoardResetRelease strapHigh) ∧ StepMoves Configures (execPowerOnResetEnd strapHigh) := by
  constructor
  · refine Moves.next (KeepsSettings.moves fun s => ?_)
    split <;> rfl
  · refine Moves.next (KeepsSettings.moves fun s => ?_)
    split <;> rfl

/-! ### Every command -/

/-- What every command can do to the settings. -/
theorem exec_configures (c : Instr) : StepMoves Configures (exec c) := by
  cases c with
  | powerOnReset => exact Moves.next fun _ => SettingsChange.reset
  | boardResetAssert => exact execBoardResetAssert_configures
  | boardResetRelease strapHigh => exact (execResetEnd_configures strapHigh).1
  | hostRequestTake presented => exact execHostRequestTake_configures presented
  | memorySideGrant => exact settings_arbitrate.live
  | memoryResponse source tag status data => exact execMemoryResponse_configures source tag status data
  | hostResponsePassBack => exact settings_passBack.live
  | sweepPick => exact KeepsSettings.liveWhen (f := fun s => s.withMirror s.mirror.pick) (fun _ => rfl) _
  | chunkReadIssue => exact execChunkReadIssue_configures
  | doneEntryAppend => exact KeepsSettings.liveWhen (f := appendDone) (fun _ => rfl) _
  | drainNormalEnd => exact settings_endDrainNormally.liveWhen _
  | holdAsserted => exact execHold_configures.1
  | holdWithdrawn => exact execHold_configures.2
  | helloTimerExpiry => exact settings_helloExpired.liveWhen _
  | ackTimerExpiry => exact settings_ackExpired.liveWhen _
  | holdTimerExpiry => exact settings_holdExpired.liveWhen _
  | relinkTimerExpiry => exact KeepsSettings.liveWhen (f := fun s => enterLinking (bump .relinkAttempts s)) (fun _ => rfl) _
  | drainTimerExpiry => exact settings_drainExpired.liveWhen _
  | characterReceived line ch => exact (settings_receive line ch).live
  | frameDiscarded d => exact execFrameDiscarded_configures d
  | helloRoleConflict session => exact execHelloRoleConflict_configures session
  | welcomeTaken session result => exact (settings_welcomed result).takeFrame _
  | byeTaken session reason => exact execByeTaken_configures session reason
  | ackTaken session n => exact (settings_ackArrived n).takeFrame _
  | nakTaken session n => exact (settings_nakArrived n).takeFrame _
  | helloTaken session hello => exact execHelloTaken_configures session hello
  | sequencedFrameTaken session n body => exact (settings_sequencedArrived n body).takeFrame _
  | replicaByeTaken session reason => exact execReplicaByeTaken_configures session reason
  | applyFrameStart => exact settings_startNext.live
  | welcomeAcceptSend => exact KeepsSettings.liveWhen (f := acceptSend) (fun _ => rfl) _
  | linkFrameTransmitStart => exact settings_sendNext.liveWhen _
  | replyFrameTransmitStart => exact settings_sendReply.liveWhen _
  | responseTransmitStart => exact settings_sendResponse.live
  | transmissionEnd line => exact (settings_endTx line).live
  | divisorTakeEffect line half => exact KeepsSettings.live fun _ => settings_withLine ..
  | serviceFrameRejected d => exact execServiceFrameRejected_configures d
  | serviceFrameDropped => exact execServiceFrameDropped_configures
  | status group => exact (settings_doStatus group).serve _ _
  | readParam number => exact (settings_doReadParam number).serve _ _
  | writeParam number value => exact serve_configures _ _ (doWriteParam_configures number value)
  | loadRegion index base count kind policy =>
    exact serve_configures _ _ (doLoadRegion_configures index base count kind policy)
  | clearRegion index => exact serve_configures _ _ (doClearRegion_configures index)
  | readRegion index => exact (settings_doReadRegion index).serve _ _
  | startFull => exact (settings_doStart fullStart).serve _ _
  | startClean => exact (settings_doStart cleanStart).serve _ _
  | stopNow => exact settings_doStopNow.serve _ _
  | stopDrain => exact settings_doStopDrain.serve _ _
  | abort => exact execAbort_configures
  | resync scope => exact (settings_doResync scope).serve _ _
  | readException => exact KeepsSettings.serve _ _ (act := doReadException) fun _ => rfl
  | clearOverflow => exact KeepsSettings.serve _ _ (act := doClearOverflow) fun _ => rfl
  | readAlerts => exact KeepsSettings.serve _ _ (act := doReadAlerts) fun _ => rfl
  | ackAlerts causes => exact KeepsSettings.serve _ _ (act := doAckAlerts causes) fun _ => rfl
  | setAlertMask causes => exact KeepsSettings.serve _ _ (act := doSetAlertMask causes) fun _ => rfl
  | readMarker => exact KeepsSettings.serve _ _ (act := doReadMarker) fun _ => rfl
  | readCounters number => exact (settings_doReadCounters number).serve _ _
  | clearCounters number => exact (settings_doClearCounters number).serve _ _
  | setRole role => exact (settings_doSetRole role).serve _ _
  | promote force => exact (settings_doPromote force).serve _ _
  | softReset => exact settings_doSoftReset.serve _ _
  | softResetComplete => exact execSoftResetComplete_configures
  | lineSampledHigh line => exact KeepsSettings.live fun _ => settings_withLine ..
  | characterBoundary => exact KeepsSettings.live fun _ => rfl
  | powerOnResetEnd strapHigh => exact (execResetEnd_configures strapHigh).2

/-- What every step can do to the settings. -/
theorem step_configures : StepMoves Configures step := by
  intro s t ht
  unfold step at ht
  split at ht
  · cases ht
    exact .same
  · rename_i c rest _
    exact exec_configures c { s with pending := rest } t ht

end Sys2Proof.Proofs
end

section
/-! PROOFS. The bounds of the region table and of the parameters outlive every change that a step can make (R70, R194). -/
namespace Sys2Proof.Proofs

open Sys2Proof.Machine Sys2Proof.Safety

/-! ### The region table -/

/-- What RegionsOk asks of the region table (R70). -/
structure TableOk (regions : Vector (Option Region) 32) : Prop where
  bounds : ∀ i : Fin 32, ∀ r ∈ regions[i], regionInBounds r
  apart : ∀ i j : Fin 32, i ≠ j → ∀ r ∈ regions[i], ∀ q ∈ regions[j], r.overlaps q = false
  total : mirrorPageTotal regions ≤ 65536

/-- The invariant of the part is that of its region table. -/
theorem regionsOk_iff (s : State) : RegionsOk s ↔ TableOk s.regions :=
  ⟨fun ⟨bounds, apart, total⟩ => ⟨bounds, apart, total⟩, fun h => ⟨h.bounds, h.apart, h.total⟩⟩

/-- Two regions share a page whichever comes first (R70). -/
theorem overlaps_comm (r q : Region) : r.overlaps q = q.overlaps r := by
  simp only [Region.overlaps, and_comm]

/-- Numbers left out of a list make its sum no greater. -/
theorem sum_le_of_sublist {l m : List Nat} (h : l.Sublist m) : l.sum ≤ m.sum := by
  induction h with
  | slnil => exact Nat.le_refl _
  | cons a _ ih =>
    rw [List.sum_cons]
    exact Nat.le_trans ih (Nat.le_add_left ..)
  | cons_cons a _ ih =>
    rw [List.sum_cons, List.sum_cons]
    exact Nat.add_le_add_left ih a

/-- An entry that is not of kind MIRROR, or none, takes no page into the mirror page total (R70). -/
theorem mirrorPageTotal_set_le (regions : Vector (Option Region) 32) (i : Fin 32) {x : Option Region}
    (hx : x.filter Region.isMirror = none) : mirrorPageTotal (regions.set i x) ≤ mirrorPageTotal regions := by
  have hsub : (mirrorRegions (regions.set i x)).Sublist (mirrorRegions regions) := by
    have herase : (regions.toList.set i x).filterMap (fun r => r.filter Region.isMirror) =
        (regions.toList.eraseIdx i).filterMap (fun r => r.filter Region.isMirror) := by
      rw [List.set_eq_take_append_cons_drop, if_pos (by simp), List.eraseIdx_eq_take_drop_succ, List.filterMap_append,
        List.filterMap_append, List.filterMap_cons_none hx]
    rw [mirrorRegions, Vector.toList_set, herase]
    exact (List.eraseIdx_sublist ..).filterMap _
  exact sum_le_of_sublist (hsub.map Region.count)

/-- An entry that is empty, or within bounds and apart from every other entry, joins the table (R70). -/
theorem TableOk.set {regions : Vector (Option Region) 32} (h : TableOk regions) {i : Fin 32} {x : Option Region}
    (hbounds : ∀ r ∈ x, regionInBounds r)
    (hapart : ∀ r ∈ x, ∀ j : Fin 32, j ≠ i → ∀ q ∈ regions[j], r.overlaps q = false)
    (htotal : mirrorPageTotal (regions.set i x) ≤ 65536) : TableOk (regions.set i x) := by
  refine ⟨fun j r hr => ?_, fun j k hjk r hr q hq => ?_, htotal⟩
  · by_cases hj : j = i
    · subst hj
      rw [getElem_set_same] at hr
      exact hbounds r hr
    · rw [getElem_set_other _ _ hj] at hr
      exact h.bounds j r hr
  · by_cases hj : j = i
    · subst hj
      rw [getElem_set_same] at hr
      rw [getElem_set_other _ _ hjk.symm] at hq
      exact hapart r hr k hjk.symm q hq
    · rw [getElem_set_other _ _ hj] at hr
      by_cases hk : k = i
      · subst hk
        rw [getElem_set_same] at hq
        rw [overlaps_comm]
        exact hapart q hq j hj r hr
      · rw [getElem_set_other _ _ hk] at hq
        exact h.apart j k hjk r hr q hq

/-- The table after reset (R85). -/
theorem tableOk_reset : TableOk State.reset.regions :=
  (regionsOk_iff State.reset).1 (by decide)

/-- The table's bounds outlive a step (R70, R77). -/
theorem TableOk.configured {a b : Settings} (h : TableOk a.regions) (hab : SettingsChange a b) : TableOk b.regions := by
  cases hab with
  | same => exact h
  | reset => exact tableOk_reset
  | param p v hrange => exact h
  | load i r hbounds hfree hfits =>
    have hapart := (overlapsOther_false_iff a.regions i r).1 hfree
    refine h.set (fun q hq => Option.some.inj hq ▸ hbounds) (fun q hq => Option.some.inj hq ▸ hapart) ?_
    by_cases hm : r.isMirror = true
    · exact Nat.not_lt.1 fun hlt => hfits ⟨hm, hlt⟩
    · exact Nat.le_trans (mirrorPageTotal_set_le a.regions i (if_neg hm)) h.total
  | clear i => exact h.set nofun nofun (Nat.le_trans (mirrorPageTotal_set_le a.regions i rfl) h.total)

/-! ### The parameters -/

/-- Every parameter of the settings lies in its range (R194). -/
def ParamsInRange (params : Vector Nat 12) : Prop :=
  ∀ p : Param, paramMin p ≤ params[paramNumber p] ∧ params[paramNumber p] ≤ paramMax p

/-- The invariant of the part is that of its parameters. -/
theorem paramsOk_iff (s : State) : ParamsOk s ↔ ParamsInRange s.params := Iff.rfl

/-- Each parameter has a number of its own (R194). -/
theorem paramNumber_injective : Function.Injective paramNumber := by
  intro p q h
  have hp := paramOfNumber_paramNumber p
  rw [h, paramOfNumber_paramNumber q] at hp
  exact (Option.some.inj hp).symm

/-- The parameters after reset (R194). -/
theorem paramsInRange_reset : ParamsInRange State.reset.params := by
  intro p
  cases p <;> decide

/-- The parameters' ranges outlive a step (R194). -/
theorem ParamsInRange.configured {a b : Settings} (h : ParamsInRange a.params) (hab : SettingsChange a b) :
    ParamsInRange b.params := by
  cases hab with
  | same => exact h
  | reset => exact paramsInRange_reset
  | param p v hrange =>
    intro q
    by_cases hq : q = p
    · subst hq
      rwa [getElem_set_same]
    · rw [getElem_set_other _ _ (paramNumber_injective.ne hq)]
      exact h q
  | load i r hbounds hfree hfits => exact h
  | clear i => exact h

/-- Settles O52: whatever a step does to the settings, both bounds outlive it. -/
theorem stepsKeepTheConfigurationInBounds : Obligations.StepsKeepTheConfigurationInBounds := by
  refine ⟨fun s t hs ht => ?_, fun s t hs ht => ?_⟩
  · exact (regionsOk_iff t).2 (((regionsOk_iff s).1 hs).configured (step_configures s t ht))
  · exact (paramsOk_iff t).2 (((paramsOk_iff s).1 hs).configured (step_configures s t ht))

end Sys2Proof.Proofs
end

section
/-! PROOFS. The part after power-on reset meets every invariant, and what power-on reset and the ends of reset leave (R103,
R104, R199). -/
namespace Sys2Proof.Proofs

open Sys2Proof.Machine Sys2Proof.Safety

/-! ### The state after power-on reset -/

/-- Role, mirror state, session, timers and command slot agree after reset: both blocks are in OFF and no timer runs (R28,
R112, R172, R204). -/
theorem coordinated_reset : Coordinated State.reset := by decide

/-- After reset the map is empty and no chunk read is reserved (R8, R29, R33). -/
theorem mapOk_reset : MapOk State.reset := by decide

/-- After reset the replica apply unit is outside a session with an empty queue (R172). -/
theorem replicaOk_reset : ReplicaOk State.reset := by decide

/-- After reset no exception is listed (R180). -/
theorem exceptionsOk_reset : ExceptionsOk State.reset := by decide

/-- After reset no reply waits (R172). -/
theorem repliesOk_reset : RepliesOk State.reset := by decide

/-- After reset no place and no slot of the journal is claimed (R25). -/
theorem roomOk_reset : RoomOk State.reset := by decide

/-- After reset no tracking entry is in use, so that no capture link names a journal entry (R25, R89). -/
theorem capturesOk_reset : CapturesOk State.reset := by
  refine ⟨List.nodup_nil, nofun, fun t id hid => ?_⟩
  have hfree : State.reset.path.table[t] = .free := by simp [State.reset, Path.reset]
  rw [hfree] at hid
  cases hid

/-- After reset the journal is empty, and nothing in it is SENT (R25). -/
theorem sendOrderOk_reset : SendOrderOk State.reset :=
  ⟨rfl, Nat.le_refl 0, fun _ => rfl, Nat.zero_le _, fun _ => rfl⟩

/-- Settles O3: each invariant by its lemma about the state after reset. -/
theorem resetMeetsTheInvariants : Obligations.ResetMeetsTheInvariants :=
  ⟨exceptionsOk_reset, (regionsOk_iff _).2 tableOk_reset, (paramsOk_iff _).2 paramsInRange_reset, coordinated_reset,
    mapOk_reset, replicaOk_reset, repliesOk_reset, pathOk_reset, roomOk_reset, capturesOk_reset, sendOrderOk_reset⟩

/-! ### The ends of reset -/

/-- The end of power-on reset samples the strap and starts the part (R104, R199). -/
theorem exec_powerOnResetEnd {s : State} (high : Bool) (h : s.phase = .powerOn) :
    exec (.powerOnResetEnd high) s = .next { s with phase := .running, role := strapRole high } :=
  congrArg _ (if_pos h)

/-- The release of RST_N samples the strap, clears the stale marks of KEPT entries and starts the part (R103, R199). -/
theorem exec_boardResetRelease {s : State} (high : Bool) (h : s.phase = .boardReset) :
    exec (.boardResetRelease high) s = .next { s with
      phase := .running, role := strapRole high, path := { s.path with table := s.path.table.map clearKept } } :=
  congrArg _ (if_pos h)

/-- Settles O4: each end of reset by its equation, the stale marks by the cases of a tracking entry. -/
theorem powerOnResetAndTheEndsOfReset : Obligations.PowerOnResetAndTheEndsOfReset := by
  refine ⟨fun s => rfl, fun high s h => exec_powerOnResetEnd high h, fun high s h => ?_⟩
  rw [exec_boardResetRelease high h]
  refine congrArg (fun f => Host.Outcome.next { s with
    phase := .running, role := strapRole high, path := { s.path with table := s.path.table.map f } }) (funext fun x => ?_)
  cases x with
  | stale src k => cases k <;> rfl
  | used e => rfl
  | free => rfl

end Sys2Proof.Proofs
end

section
/-! PROOFS. The memory side: which request a grant hands to memory, how a response is matched to a tag or dropped, how the
answer to a host request decides its response, and the oldest response passed back (R13, R14, R61, R86, R87, R95 to R99,
R102, R103). -/
namespace Sys2Proof.Proofs

open Sys2Proof.Machine Sys2Proof.Safety

/-! ### The grant -/

/-- The grant in the running part is the arbiter's choice (R95). -/
theorem exec_memorySideGrant {s : State} (h : s.phase = .running) : exec .memorySideGrant s = .next (arbitrate s) :=
  live_running h

/-- With no claimant waiting nothing is granted (R95). -/
theorem arbitrate_idle {s : State} (hh : s.path.hostQueue = []) (ho : s.path.ownQueue = []) : arbitrate s = s := by
  simp only [arbitrate, hh, ho]

/-- The grant of a READ: handed to memory with its entry IN_MEMORY (R96). -/
theorem grantHost_read {s : State} {t : Fin 64} {ts : List (Fin 64)} {e : TrackEntry} (ht : s.path.table[t] = .used e)
    (hk : e.req.kind = .read) :
    grantHost t ts s = s.withPath (s.path.grantHost t ts e { e with state := .inMemory }) := by
  simp only [grantHost, ht, forward, hk]

/-- The grant of a request of the part's own (R87, R96). -/
theorem grantOwn_waiting {s : State} {u : Fin 8} {us : List (Fin 8)} {r : OwnRequest} (hu : s.path.own[u] = .waiting r) :
    grantOwn u us s = s.withPath { s.path with
      own := s.path.own.set u (.granted r), ownQueue := us, lastGranted := .internal,
      memOut := some (ownMemRequest u r) } := by
  simp only [grantOwn, hu]

/-- Settles O8: the arbiter's choice, and then what the grant of each kind of request hands over. -/
theorem memorySideIsGrantedInTurn : Obligations.MemorySideIsGrantedInTurn := by
  refine ⟨fun s t ts e hrun hq ht hk hturn => ?_, fun s t ts e ⟨hrun, hq, ht, hk, hturn⟩ => ?_,
    fun s u us r hrun hq hu hturn => ?_, fun s hh ho => ?_⟩
  · rw [exec_memorySideGrant hrun, arbitrate_host hq hturn, grantHost_read ht hk, Path.grantHost, hostMemRequest, hk]
    rfl
  · rw [exec_memorySideGrant hrun, arbitrate_host hq hturn, grantHost_write ht hk, Path.grantHost, hostMemRequest, hk]
    exact ⟨_, rfl, rfl, rfl, rfl, rfl⟩
  · rw [exec_memorySideGrant hrun, arbitrate_own hq hturn, grantOwn_waiting hu]
    rfl
  · show live arbitrate s = _
    rw [live_next, arbitrate_idle hh ho, ite_self]

/-! ### Responses matched to a tag -/

/-- A response with a host source is matched against the tracking entries (R97). -/
theorem exec_memoryResponse_host {source : Byte} (h : source ≠ 255) (t : Fin 64) (st : MemStatus) (data : List Byte)
    (s : State) : exec (.memoryResponse source t st data) s = .next (matchHost source t st data s) :=
  congrArg _ (if_neg h)

/-- A response with source 255 is matched against the internal tags (R97). -/
theorem exec_memoryResponse_own (tag : Fin 64) (st : MemStatus) (data : List Byte) (s : State) :
    exec (.memoryResponse 255 tag st data) s = .next (matchOwn tag st data s) :=
  congrArg Host.Outcome.next (if_pos rfl)

/-- The answer to a request that waits in memory (R97). -/
theorem matchHost_waits {s : State} {source : Byte} {t : Fin 64} {e : TrackEntry} (h : WaitsInMemory s source t e)
    (st : MemStatus) (data : List Byte) : matchHost source t st data s = hostAnswered t e st data s := by
  obtain ⟨-, ht, hm, hsrc⟩ := h
  simp only [matchHost, ht]
  exact if_pos ⟨hm, hsrc⟩

/-- A response for a request that is not in memory, or of another source, is dropped (R97). -/
theorem matchHost_unmatched {s : State} {source : Byte} {t : Fin 64} {e : TrackEntry} (ht : s.path.table[t] = .used e)
    (h : e.state ≠ .inMemory ∨ e.req.source ≠ source) (st : MemStatus) (data : List Byte) :
    matchHost source t st data s = s := by
  simp only [matchHost, ht]
  exact if_neg fun ⟨hm, hsrc⟩ => h.elim (· hm) (· hsrc)

/-- A response for a stale tag of its own source clears the mark (R97, R103). -/
theorem matchHost_stale {s : State} {source : Byte} {t : Fin 64} {k : Bool} (ht : s.path.table[t] = .stale source k)
    (st : MemStatus) (data : List Byte) :
    matchHost source t st data s = s.withPath { s.path with table := s.path.table.set t .free } := by
  simp only [matchHost, ht, if_true]

/-- A response for a stale tag of another source is dropped (R97). -/
theorem matchHost_foreign {s : State} {source owner : Byte} {t : Fin 64} {k : Bool}
    (ht : s.path.table[t] = .stale owner k) (h : source ≠ owner) (st : MemStatus) (data : List Byte) :
    matchHost source t st data s = s := by
  simp only [matchHost, ht]
  exact if_neg h.symm

/-- A response for a free tag is dropped (R97). -/
theorem matchHost_free {s : State} {t : Fin 64} (ht : s.path.table[t] = .free) (source : Byte) (st : MemStatus)
    (data : List Byte) : matchHost source t st data s = s := by
  simp only [matchHost, ht]

/-- The internal tag of a number below 8 (R87). -/
theorem ownTagOf_some {tag : Fin 64} {u : Fin 8} (h : tag.val = u.val) : ownTagOf tag = some u := by
  simp [ownTagOf, h]

/-- A number of 8 or more names no internal tag (R87). -/
theorem ownTagOf_none {tag : Fin 64} (h : 8 ≤ tag.val) : ownTagOf tag = none :=
  dif_neg (Nat.not_lt.2 h)

/-- The answer to a request of the part's own that is in memory frees its tag and goes to its block (R97, R101). -/
theorem matchOwn_granted {s : State} {tag : Fin 64} {u : Fin 8} {r : OwnRequest} (h : OwnInMemory s tag u r)
    (st : MemStatus) (data : List Byte) :
    matchOwn tag st data s = ownAnswered r st data (s.withPath (s.path.freeOwn u)) := by
  obtain ⟨htag, hu⟩ := h
  simp only [matchOwn, ownTagOf_some htag, hu]

/-- A response for a stale internal tag clears the mark (R97, R103). -/
theorem matchOwn_stale {s : State} {tag : Fin 64} {u : Fin 8} (htag : tag.val = u.val) (hu : s.path.own[u] = .stale)
    (st : MemStatus) (data : List Byte) : matchOwn tag st data s = s.withPath (s.path.freeOwn u) := by
  simp only [matchOwn, ownTagOf_some htag, hu]

/-- A response for a free internal tag is dropped (R97). -/
theorem matchOwn_free {s : State} {tag : Fin 64} {u : Fin 8} (htag : tag.val = u.val) (hu : s.path.own[u] = .free)
    (st : MemStatus) (data : List Byte) : matchOwn tag st data s = s := by
  simp only [matchOwn, ownTagOf_some htag, hu]

/-- A response for a number that names no internal tag is dropped (R97). -/
theorem matchOwn_none {tag : Fin 64} (h : 8 ≤ tag.val) (st : MemStatus) (data : List Byte) (s : State) :
    matchOwn tag st data s = s := by
  simp only [matchOwn, ownTagOf_none h]

/-- Settles O15: what the tag and the source name decides whether a mark is cleared or nothing changes. -/
theorem staleAndUnmatchedResponsesAreDropped : Obligations.StaleAndUnmatchedResponsesAreDropped := by
  refine ⟨fun s source t k st data hsrc ht => ?_,
    fun s tag u st data htag => ⟨fun hu => ?_, fun hu => ?_⟩,
    fun s source t st data hsrc ht => ?_, fun s source owner t k st data hsrc ht hne => ?_,
    fun s source t e st data hsrc ht h => ?_, fun s tag st data htag => ?_⟩
  · rw [exec_memoryResponse_host hsrc, matchHost_stale ht]
    rfl
  · rw [exec_memoryResponse_own, matchOwn_stale htag hu]
    rfl
  · rw [exec_memoryResponse_own, matchOwn_free htag hu]
  · rw [exec_memoryResponse_host hsrc, matchHost_free ht]
  · rw [exec_memoryResponse_host hsrc, matchHost_foreign ht hne]
  · rw [exec_memoryResponse_host hsrc, matchHost_unmatched ht h]
  · rw [exec_memoryResponse_own, matchOwn_none htag]

/-! ### The answer to a host request -/

/-- The memory path with the capture link of a tracking entry in use dropped (R99). -/
def unlinked (t : Fin 64) (e : TrackEntry) (p : Path) : Path :=
  { p with table := p.table.set t (.used { e with capture := none }) }

/-- The journal told of memory's answer to the write that it captured, if it captured one (R13, R14). -/
def toldJournal (capture : Option Nat) (st : MemStatus) (j : Journal) : Journal :=
  match capture with
  | none => j
  | some id => if st = .okay then j.confirm id else j.void id

/-- An entry without a capture link has none to drop. -/
theorem unlinked_of_uncaptured {t : Fin 64} {e : TrackEntry} {p : Path} (ht : p.table[t] = .used e)
    (hc : e.capture = none) : unlinked t e p = p := by
  have he : { e with capture := none } = e := by rw [← hc]
  rw [unlinked, he, ← ht]
  simp

/-- A response decided behind a dropped capture link (R99, R102). -/
theorem answer_unlinked (t : Fin 64) (e : TrackEntry) (a : HostAnswer) (p : Path) :
    (unlinked t e p).answer t a = decided t e a.status a.data p := by
  rw [answer_used (e := { e with capture := none }) a (getElem_set_same _ _ _)]
  simp only [unlinked, Vector.set_set]
  rfl

/-- Memory's answer to a WRITE told to the journal, and the capture link dropped (R13, R14, R99). -/
theorem tellJournal_eq {t : Fin 64} {e : TrackEntry} {s : State} (ht : s.path.table[t] = .used e) (st : MemStatus) :
    tellJournal t e st s =
      { s with path := unlinked t e s.path, journal := toldJournal e.capture st s.journal } := by
  cases hc : e.capture with
  | none =>
    simp only [tellJournal, hc, unlinked_of_uncaptured ht hc]
    rfl
  | some id =>
    simp only [tellJournal, hc, modifyEntry_used _ ht]
    cases st <;> rfl

/-- A rule other than HELD decides the response at memory's answer: ERROR under CLOSED, and otherwise as memory answered
(R99). -/
theorem decideWrite_unheld {rule : CompletionRule} (h : rule ≠ .held) (t : Fin 64) (st : MemStatus) (s : State) :
    decideWrite t rule st s =
      s.withPath (s.path.answer t { status := if rule = .closed then .error else st, data := [] }) := by
  cases rule with
  | asMemory => rfl
  | closed => rfl
  | held => exact absurd rfl h

/-- A WRITE under a rule other than HELD is answered (R13, R14, R99). -/
theorem hostAnswered_unheld {t : Fin 64} {e : TrackEntry} {rule : CompletionRule} {s : State}
    (ht : s.path.table[t] = .used e) (hk : e.req.kind = .write) (hr : e.rule = some rule) (h : rule ≠ .held)
    (st : MemStatus) (data : List Byte) :
    hostAnswered t e st data s = { s with
      path := decided t e (if rule = .closed then .error else st) [] s.path,
      journal := toldJournal e.capture st s.journal } := by
  simp only [hostAnswered, hk, hr, Option.getD_some, decideWrite_unheld h, tellJournal_eq ht, answer_unlinked]
  rfl

/-- A held WRITE that memory took is kept, and its record's memory status becomes OKAY (R61, R99). -/
theorem hostAnswered_held_okay {t : Fin 64} {e : TrackEntry} {s : State} (ht : s.path.table[t] = .used e)
    (hk : e.req.kind = .write) (hr : e.rule = some .held) (data : List Byte) :
    hostAnswered t e .okay data s = { s with
      path := { s.path with table := s.path.table.set t (.used { e with capture := none, state := .kept }) },
      journal := toldJournal e.capture .okay s.journal,
      held := s.held.map (fun r => if r.track = t then { r with memOkay := true } else r) } := by
  have hused : (unlinked t e s.path).table[t] = .used { e with capture := none } := getElem_set_same _ _ _
  simp only [hostAnswered, hk, hr, Option.getD_some, tellJournal_eq ht, decideWrite, keepHeld, modifyEntry_used _ hused]
  simp only [unlinked, Vector.set_set]
  rfl

/-- A held WRITE that memory refused is answered ERROR, and its record is removed (R61, R99). -/
theorem hostAnswered_held_error {t : Fin 64} {e : TrackEntry} {s : State} (ht : s.path.table[t] = .used e)
    (hk : e.req.kind = .write) (hr : e.rule = some .held) (data : List Byte) :
    hostAnswered t e .error data s = { s with
      path := decided t e .error [] s.path, journal := toldJournal e.capture .error s.journal,
      held := s.held.filter (fun r => r.track ≠ t) } := by
  simp only [hostAnswered, hk, hr, Option.getD_some, tellJournal_eq ht, decideWrite, answer_unlinked]
  rfl

/-- A READ is answered with status and data, zeros under ERROR (R86, R98). -/
theorem hostAnswered_read {t : Fin 64} {e : TrackEntry} {s : State} (ht : s.path.table[t] = .used e)
    (hk : e.req.kind = .read) (hc : e.capture = none) (st : MemStatus) (data : List Byte) :
    hostAnswered t e st data s =
      { s with path := decided t e st (if st = .okay then data else List.replicate 64 0) s.path } := by
  have hanswer : ∀ a, s.path.answer t a = decided t e a.status a.data s.path := fun a => by
    rw [← answer_unlinked, unlinked_of_uncaptured ht hc]
  simp only [hostAnswered, hk, hanswer]
  cases st <;> rfl

/-- Settles O12: the request by its kind, and a WRITE by its completion rule. -/
theorem memoryAnswersAHostRequest : Obligations.MemoryAnswersAHostRequest := by
  intro s source t e st data hw
  have ⟨hsrc, ht, _, _⟩ := hw
  have hmatch : ∀ st, exec (.memoryResponse source t st data) s = .next (hostAnswered t e st data s) := fun st => by
    rw [exec_memoryResponse_host hsrc, matchHost_waits hw]
  refine ⟨fun hk hc => ?_, fun hk hr => ?_, fun hk hr id hc => ⟨?_, ?_⟩⟩
  · rw [hmatch, hostAnswered_read ht hk hc]
  · obtain ⟨rule, hrule, hheld⟩ : ∃ rule, e.rule = some rule ∧ rule ≠ .held :=
      hr.elim (fun h => ⟨_, h, nofun⟩) (fun h => ⟨_, h, nofun⟩)
    rw [hmatch, hostAnswered_unheld ht hk hrule hheld, hrule]
    simp only [Option.some.injEq]
    exact ⟨fun hc => by rw [hc]; rfl, fun id hc => by rw [hc]; rfl⟩
  · rw [hmatch, hostAnswered_held_okay ht hk hr, hc]
    rfl
  · rw [hmatch, hostAnswered_held_error ht hk hr, hc]
    rfl

/-! ### Responses passed back -/

/-- Settles O16: the answer queue's oldest entry holds its decided response. -/
theorem oldestResponseIsPassedBack : Obligations.OldestResponseIsPassedBack := by
  intro s t ts e a hrun hq ht ha
  have hpass : passBack s = s.withPath { s.path with
      table := s.path.table.set t .free, answerQueue := ts,
      hostOut := some { source := e.req.source, tag := e.req.tag, status := a.status, data := a.data } } := by
    simp only [passBack, hq, ht, ha]
  exact (live_running hrun).trans (congrArg _ hpass)

end Sys2Proof.Proofs
end

section
/-! PROOFS. What the answer to an apply write does: a count, a retirement with its acknowledgement, or an apply fault (R101,
R147, R161 to R164, R168). -/
namespace Sys2Proof.Proofs

open Sys2Proof.Machine Sys2Proof.Safety

/-! ### The answer to one apply write -/

/-- The line of the first ERROR among a frame's answers, with one more answer (R147). -/
def errorAfter (w : ApplyWork) (a : LineAddr) (st : MemStatus) : Option LineAddr :=
  if w.firstError = none ∧ st = .error then some a else w.firstError

/-- The first ERROR among a frame's answers: an earlier one, or else this one (R147). -/
theorem errorAfter_some {w : ApplyWork} {a b : LineAddr} {st : MemStatus}
    (h : w.firstError = some b ∨ (w.firstError = none ∧ st = .error ∧ b = a)) : errorAfter w a st = some b := by
  rcases h with h | ⟨h, hst, rfl⟩ <;> simp [errorAfter, *]

/-- No ERROR among a frame's answers (R147). -/
theorem errorAfter_none {w : ApplyWork} {st : MemStatus} (h : w.firstError = none) (hst : st = .okay) (a : LineAddr) :
    errorAfter w a st = none := by
  simp [errorAfter, h, hst]

/-- The answer to an apply write frees its tag and goes to the replica apply unit (R101). -/
theorem exec_memoryResponse_apply {s : State} {tag : Fin 64} {u : Fin 8} {r : OwnRequest} {k : Fin 4}
    (h : OwnInMemory s tag u r) (hr : r.use = .apply k) (st : MemStatus) (data : List Byte) :
    exec (.memoryResponse 255 tag st data) s = .next (applyAnswered r.addr st (s.withPath (s.path.freeOwn u))) := by
  rw [exec_memoryResponse_own, matchOwn_granted h, ownAnswered, hr]

/-- The answer to an apply write: counted unless it is the last, and with the last the frame retires or an apply fault takes
place (R162, R168). -/
theorem applyAnswered_eq {s : State} {w : ApplyWork} (hw : s.replica.applying = some w) (a : LineAddr) (st : MemStatus) :
    applyAnswered a st s =
      if w.remaining ≤ 1 then
        (errorAfter w a st).elim (retireStarted (s.withReplica { s.replica with applying := none }))
          (fun b => applyFault b w.region (s.withReplica { s.replica with applying := none }))
      else s.withReplica { s.replica with
        applying := some { w with remaining := w.remaining - 1, firstError := errorAfter w a st } } := by
  have herr : (if w.firstError.isSome then w.firstError else (if st = .error then some a else none)) =
      errorAfter w a st := by
    cases h : w.firstError <;> simp [errorAfter, h]
  simp only [applyAnswered, hw, herr]
  cases errorAfter w a st <;> rfl

/-! ### Retirement and apply fault -/

/-- A DATA or PAGE frame retires: it leaves the queue, and the acknowledgement follows (R161, R163, R164). -/
theorem retire_write {f : QueuedFrame} (h : framePage f.body ≠ none) (rest : List QueuedFrame) (s : State) :
    retire f rest s = { s with replica := acknowledged (coalesceLimit s) (retired f rest s.replica) } := by
  have heffect : ∀ s, retireEffect f.body s = s := by
    cases hb : f.body with
    | data _ _ _ => exact fun _ => rfl
    | page _ _ _ => exact fun _ => rfl
    | mark _ _ => rw [hb] at h; exact absurd rfl h
    | done _ _ => rw [hb] at h; exact absurd rfl h
  rw [retire, heffect, ackAfterRetire_eq]
  rfl

/-- Without a started frame in the apply queue nothing retires (R162). -/
theorem retireStarted_none {s : State} (h : ∀ f ∈ s.replica.queue.head?, f.started = false) : retireStarted s = s := by
  unfold retireStarted
  split
  · rename_i f rest hq
    rw [h f (by rw [hq]; rfl)]
    rfl
  · rfl

/-- The oldest frame, once started, retires (R162). -/
theorem retireStarted_started {s : State} {f : QueuedFrame} {rest : List QueuedFrame} (hq : s.replica.queue = f :: rest)
    (hf : f.started = true) : retireStarted s = retire f rest s := by
  simp only [retireStarted, hq, hf]
  rfl

/-- An apply fault: reported and set pending, the consistency BROKEN, and a session left with BYE(APPLY_FAULT) (R168). -/
theorem applyFault_eq (a : LineAddr) (i : Option (Fin 32)) (s : State) :
    let t := alerted .applyFault (report .applyFault none a i
      (s.withReplica { s.replica with consistency := .broken }))
    applyFault a i s = if s.replica.state = .session then sessionLeft (some .applyFault) .listening t else t := by
  intro t
  have hstate : t.replica.state = s.replica.state := by
    show (report _ _ _ _ _).replica.state = _
    rw [report_frame]
    rfl
  have hfault : applyFault a i s = match t.replica.state with
    | .session => leaveSession (some .applyFault) .listening t
    | .listening => t
    | .off => t := rfl
  rw [hfault, hstate]
  cases s.replica.state <;> rfl

/-- Settles O33: the first ERROR with this answer among those of the frame, and then the count, the retirement or the
fault. -/
theorem applyWritesEndInRetirementOrFault : Obligations.ApplyWritesEndInRetirementOrFault := by
  intro s tag u r k st data w hown hr hw
  have hfreed : (s.withPath (s.path.freeOwn u)).replica.applying = some w := hw
  rw [exec_memoryResponse_apply hown hr, applyAnswered_eq hfreed]
  refine ⟨fun hmore => ?_, fun hlast hnone hst => ?_, fun a hlast ha => ?_⟩
  · rw [if_neg (by omega)]
    rfl
  · rw [if_pos (by omega), errorAfter_none hnone hst, Option.elim_none]
    refine ⟨fun f rest hq hf hpage => ?_, fun hidle => ?_⟩
    · refine congrArg Host.Outcome.next ((retireStarted_started ?_ hf).trans (retire_write hpage rest _))
      exact hq
    · refine congrArg Host.Outcome.next (retireStarted_none ?_)
      exact hidle
  · rw [if_pos (by omega), errorAfter_some ha, Option.elim_some, applyFault_eq]
    rfl

end Sys2Proof.Proofs
end

section
/-! PROOFS. The link unit's timers: what HOLD and each expiry that loses no session do to the timers, the retry counter and
the control queue (R19, R45, R115, R118, R121 to R123, R127, R138). -/
namespace Sys2Proof.Proofs

open Sys2Proof.Machine Sys2Proof.Safety

/-! ### HOLD -/

/-- A part reads HOLD exactly while it runs in the primary role (R138). -/
theorem readsHold_iff (s : State) : readsHold s = true ↔ s.phase = .running ∧ s.role = .primary := by
  simp [readsHold]

/-- A part in the replica role reads no HOLD (R138). -/
theorem readsHold_replica {s : State} (h : s.role = .replica) : readsHold s = false := by
  simp [readsHold, h]

/-- HOLD asserted: a part that reads it withdrawn reacts, and any other keeps the level alone (R138). -/
theorem exec_holdAsserted (s : State) : exec .holdAsserted s =
    .next (if readsHold s = true ∧ s.holdIn = false then holdRises (s.withHoldIn true) else s.withHoldIn true) := by
  simp [exec, execHoldAsserted]

/-- HOLD withdrawn: a part that reads it asserted reacts, and any other keeps the level alone (R138). -/
theorem exec_holdWithdrawn (s : State) : exec .holdWithdrawn s =
    .next (if readsHold s = true ∧ s.holdIn = true then holdFalls (s.withHoldIn false) else s.withHoldIn false) := by
  simp [exec, execHoldWithdrawn]

/-- HOLD falls at a primary, with the SENT entries counted (R22, R121 to R123). -/
theorem holdFalls_eq (s : State) : holdFalls s = { s with
    link := { s.link with
      holdTimer := none,
      ackTimer := if s.link.state = .up ∧ 0 < s.journal.sentCount then some (param .ackTimeout s)
                  else s.link.ackTimer },
    linkLine := s.linkLine.resume } := by
  simp only [holdFalls, sentRemain, decide_eq_true_eq]
  rfl

/-- The level driven on HOLD: that of the apply unit in a running replica, and none otherwise (R138, R161). -/
theorem holdDriven_iff (s : State) (level : Bool) :
    holdDriven s = some level ↔ s.phase = .running ∧ s.role = .replica ∧ s.replica.hold = level := by
  unfold holdDriven
  cases s.phase <;> cases s.role <;> simp

/-- Settles O21: a reading primary whose level changes reacts, and in every other case only the level is kept. -/
theorem holdMovesTheTimers : Obligations.HoldMovesTheTimers := by
  refine ⟨fun s hp hr hlow => ?_, fun s hp hr hhigh => ?_, fun s hs => ?_, fun s hs => ?_, holdDriven_iff⟩
  · rw [exec_holdAsserted, if_pos ⟨(readsHold_iff s).2 ⟨hp, hr⟩, hlow⟩]
    rfl
  · rw [exec_holdWithdrawn, if_pos ⟨(readsHold_iff s).2 ⟨hp, hr⟩, hhigh⟩, holdFalls_eq]
    rfl
  · have hquiet : ¬(readsHold s = true ∧ s.holdIn = false) := by
      rcases hs with h | h
      · simp [readsHold_replica h]
      · simp [h]
    rw [exec_holdAsserted, if_neg hquiet]
    rfl
  · have hquiet : ¬(readsHold s = true ∧ s.holdIn = true) := by
      rcases hs with h | h
      · simp [readsHold_replica h]
      · simp [h]
    rw [exec_holdWithdrawn, if_neg hquiet]
    rfl

/-! ### Expiries -/

/-- The HELLO timer expires in HELLO_WAIT: the HELLO is placed again while attempts are left (R115). -/
theorem helloExpired_eq {s : State} {h : HelloBody} (hh : s.link.hello = some h) : helloExpired s =
    if s.link.helloSends < param .helloAttempts s then
      { s with link := { s.link with
          helloTimer := none, control := s.link.control ++ [{ session := s.link.session, body := .hello h }] } }
    else attemptOver .noAnswer s := by
  unfold helloExpired
  split
  · rename_i g hg
    obtain rfl : g = h := Option.some.inj (hg.symm.trans hh)
    split <;> rfl
  · rename_i hnone
    cases hnone.symm.trans hh

/-- A rewind to the oldest SENT entry moves the send point alone, and not at all without one (R19). -/
theorem rewindOldest_eq (j : Journal) : j.rewindOldest =
    { j with sendPoint := (j.entries.findIdx? JEntry.isSent).getD j.sendPoint } := by
  unfold Journal.rewindOldest
  split <;> simp [*]

/-- A retry counter within its limit loses nothing (R127). -/
theorem checkRetry_within {s : State} (h : s.link.retry ≤ param .retryLimit s) : checkRetry s = s :=
  if_neg (Nat.not_lt.2 h)

/-- A retry counter past its limit loses the session (R127). -/
theorem checkRetry_exhausted {s : State} (h : param .retryLimit s < s.link.retry) :
    checkRetry s = sessionLost .retryExhausted s :=
  if_pos h

/-- A running HELLO timer expires in HELLO_WAIT (R115). -/
theorem exec_helloTimerExpiry {s : State} (hp : s.phase = .running) (ht : s.link.helloTimer.isSome = true)
    (hs : s.link.state = .helloWait) : exec .helloTimerExpiry s = .next (helloExpired s) := by
  simp [exec, execHelloTimerExpiry, live_running hp, ht, hs]

/-- A running ACK timer expires in UP (R127). -/
theorem exec_ackTimerExpiry {s : State} (hp : s.phase = .running) (ht : s.link.ackTimer.isSome = true)
    (hs : s.link.state = .up) : exec .ackTimerExpiry s = .next (ackExpired s) := by
  simp [exec, execAckTimerExpiry, live_running hp, ht, hs]

/-- A running hold timer expires (R122). -/
theorem exec_holdTimerExpiry {s : State} (hp : s.phase = .running) (ht : s.link.holdTimer.isSome = true) :
    exec .holdTimerExpiry s = .next (holdExpired s) := by
  simp [exec, execHoldTimerExpiry, live_running hp, ht]

/-- A running relink timer expires in TRACKING (R45, R118). -/
theorem exec_relinkTimerExpiry {s : State} (hp : s.phase = .running) (ht : s.link.relinkTimer.isSome = true)
    (hs : s.mirror.state = .tracking) :
    exec .relinkTimerExpiry s = .next (enterLinking (bump .relinkAttempts s)) := by
  simp [exec, execRelinkTimerExpiry, live_running hp, ht, hs]

/-- The ACK timer expires: rewound, the timer stopped and the retry counter one higher, which is then compared with its limit
(R19, R127). -/
theorem ackExpired_eq (s : State) : ackExpired s = checkRetry { s with
    journal := { s.journal with sendPoint := (s.journal.entries.findIdx? JEntry.isSent).getD s.journal.sendPoint },
    link := { s.link with ackTimer := none, retry := s.link.retry + 1 } } := by
  rw [ackExpired, rewindOldest_eq]
  rfl

/-- Settles O22: each running timer's expiry is its effect, the retry counter staying within its limit, and a stopped timer
has none. -/
theorem linkTimersExpire : Obligations.LinkTimersExpire := by
  refine ⟨fun s h hp ht hs hh => ?_, fun s hp ht hs hretry => ?_, fun s hp ht hs => ?_, fun s hp ht hs => ?_,
    fun s hstop => ?_, fun s hstop => ?_, fun s hstop => ?_, fun s hstop => ?_⟩
  · rw [exec_helloTimerExpiry hp ht hs, helloExpired_eq hh]
  · rw [exec_ackTimerExpiry hp ht hs, ackExpired_eq, checkRetry_within hretry]
  · simp only [exec_holdTimerExpiry hp ht, holdExpired, hs, attemptLost_eq]
  · rw [exec_relinkTimerExpiry hp ht hs, enterLinking_eq, bump_eq]
  · simp [exec, execHelloTimerExpiry, live_next, hstop]
  · simp [exec, execAckTimerExpiry, live_next, hstop]
  · simp [exec, execHoldTimerExpiry, live_next, hstop]
  · simp [exec, execRelinkTimerExpiry, live_next, hstop]

end Sys2Proof.Proofs
end

section
/-! PROOFS. Mirror-link frames as bytes: numbers spelled and read high byte first, a frame cut at its check code and at its
header, and the body of each type built and read back (R107 to R111, R134, R137). -/
namespace Sys2Proof.Proofs

open Sys2Proof.Machine Sys2Proof.Safety

/-! ### Numbers as bytes -/

/-- A number of `n` bytes takes `n` bytes. -/
theorem length_beBytes (n v : Nat) : (beBytes n v).length = n := by
  induction n with
  | zero => rfl
  | succ n ih => rw [beBytes, List.length_cons, ih]

/-- Reading on after the bytes read so far: they count by their weight, and the lowest bytes of the number are added. -/
theorem foldl_beBytes (n v acc : Nat) :
    (beBytes n v).foldl (fun acc b => acc * 256 + b.toNat) acc = acc * 256 ^ n + v % 256 ^ n := by
  induction n generalizing acc with
  | zero => simp [beBytes, Nat.mod_one]
  | succ n ih =>
    have hsplit : v % 256 ^ (n + 1) = v % 256 ^ n + 256 ^ n * (v / 256 ^ n % 256) := by
      rw [Nat.pow_succ, Nat.mod_mul]
    have hbyte : (BitVec.ofNat 8 (v / 256 ^ n)).toNat = v / 256 ^ n % 256 := BitVec.toNat_ofNat ..
    rw [beBytes, List.foldl_cons, ih, hbyte, hsplit, Nat.add_mul, Nat.pow_succ, Nat.mul_comm (256 ^ n) (v / 256 ^ n % 256),
      Nat.mul_assoc acc, Nat.mul_comm 256 (256 ^ n)]
    omega

/-- A number that fits its bytes is read back from them. -/
theorem ofBE_beBytes {n v : Nat} (h : v < 256 ^ n) : ofBE (beBytes n v) = v := by
  rw [ofBE, foldl_beBytes, Nat.mod_eq_of_lt h, Nat.zero_mul, Nat.zero_add]

/-- A field that fits its bytes is read back from them. -/
theorem ofNat_ofBE_beBytes {w n : Nat} (x : BitVec w) (h : w ≤ 8 * n) : BitVec.ofNat w (ofBE (beBytes n x.toNat)) = x := by
  have hfits : x.toNat < 256 ^ n := by
    calc x.toNat < 2 ^ w := x.isLt
      _ ≤ 2 ^ (8 * n) := Nat.pow_le_pow_right (by omega) h
      _ = 256 ^ n := Nat.pow_mul 2 8 n
  rw [ofBE_beBytes hfits, BitVec.ofNat_toNat, BitVec.setWidth_eq]

/-- The number that two bytes spell. -/
theorem ofBE_pair (a b : Byte) : ofBE [a, b] = 256 * a.toNat + b.toNat := by
  simp [ofBE, Nat.mul_comm]

/-- A byte-enable set names 64 bytes at most (R2). -/
theorem enabledCount_le (be : ByteSet) : enabledCount be ≤ 64 := by
  simpa [enabledCount] using List.countP_le_length (p := fun k => be.getLsbD k) (l := List.range 64)

/-- The empty byte-enable set names no byte (R2). -/
theorem enabledCount_zero : enabledCount 0 = 0 := by
  simp [enabledCount]

/-- A byte-enable set that is not empty names a byte (R2). -/
theorem enabledCount_pos {be : ByteSet} (h : be ≠ 0) : 1 ≤ enabledCount be := by
  refine Nat.pos_of_ne_zero fun hnone => h (BitVec.eq_of_getLsbD_eq fun k hk => ?_)
  have hclear : ¬ be.getLsbD k = true := List.countP_eq_zero.1 hnone k (List.mem_range.2 hk)
  rw [Bool.eq_false_iff.2 hclear]
  exact BitVec.getLsbD_zero.symm

/-- A DATA frame without a defect: some byte enabled, as many bytes as enabled, and a line address (R110, R111). -/
theorem seqDefect_data_none {addr : LineAddr} {be : ByteSet} {bytes : List Byte} :
    seqDefect (.data addr be bytes) = none ↔ be ≠ 0 ∧ bytes.length = enabledCount be ∧ addr.toNat % 64 = 0 := by
  simp only [seqDefect]
  by_cases hbytes : be = 0 ∨ bytes.length ≠ enabledCount be
  · rw [if_pos hbytes]
    exact ⟨nofun, fun ⟨hbe, hlen, _⟩ => absurd hbytes (not_or.2 ⟨hbe, not_not_intro hlen⟩)⟩
  · obtain ⟨hbe, hlen⟩ := not_or.1 hbytes
    rw [if_neg hbytes]
    by_cases haddr : addr.toNat % 64 = 0
    · rw [if_neg (not_not_intro haddr)]
      exact ⟨fun _ => ⟨hbe, Decidable.not_not.1 hlen, haddr⟩, fun _ => rfl⟩
    · rw [if_pos haddr]
      exact ⟨nofun, fun ⟨_, _, h⟩ => absurd h haddr⟩

/-! ### The frame around the body -/

/-- A check code takes two bytes (R108). -/
theorem length_crcBytes (bs : List Byte) : (crcBytes bs).length = 2 :=
  length_beBytes 2 _

/-- What stands before a frame's last two bytes. -/
theorem take_before_check (front : List Byte) {check : List Byte} (h : check.length = 2) :
    (front ++ check).take ((front ++ check).length - 2) = front := by
  rw [List.length_append, h, Nat.add_sub_cancel, List.take_left]

/-- A frame's last two bytes. -/
theorem drop_to_check (front : List Byte) {check : List Byte} (h : check.length = 2) :
    (front ++ check).drop ((front ++ check).length - 2) = check := by
  rw [List.length_append, h, Nat.add_sub_cancel, List.drop_left]

/-- Check 1 refuses a frame with another check code than its own (R108, R111). -/
theorem parseLink_badCrc {front check : List Byte} (hlen : check.length = 2) (h : check ≠ crcBytes front) :
    parseLink (front ++ check) = .error .crc := by
  rw [parseLink, take_before_check front hlen, drop_to_check front hlen, if_pos h.symm]

/-- Checks 2 to 4 on a frame with its own check code: the type code, the body length of the header, and the body (R111). -/
theorem parseLink_checked (t session q1 q0 l1 l0 : Byte) (body : List Byte) :
    parseLink (checked ([t, session, q1, q0, l1, l0] ++ body)) =
      if t = 0 ∨ 9 < t.toNat then .error .type
      else if body.length ≠ ofBE [l1, l0] then .error .length
      else (parseBody t session (BitVec.ofNat 16 (ofBE [q1, q0])) body).map
        (fun b => { session := session, body := b }) := by
  rw [checked, parseLink, take_before_check _ (length_crcBytes _), drop_to_check _ (length_crcBytes _),
    if_neg (not_not_intro rfl)]
  simp only [List.cons_append, List.nil_append]
  cases parseBody t session (BitVec.ofNat 16 (ofBE [q1, q0])) body <;> rfl

/-- With a type code of R109 and the body length of its header, a frame is judged by its body (R111). -/
theorem parseLink_body {t session q1 q0 l1 l0 : Byte} {body : List Byte} (h0 : t ≠ 0) (h9 : t.toNat ≤ 9)
    (hlen : ofBE [l1, l0] = body.length) :
    parseLink (checked ([t, session, q1, q0, l1, l0] ++ body)) =
      (parseBody t session (BitVec.ofNat 16 (ofBE [q1, q0])) body).map (fun b => { session := session, body := b }) := by
  rw [parseLink_checked, if_neg (not_or.2 ⟨h0, Nat.not_lt.2 h9⟩), if_neg (not_not_intro hlen.symm)]

/-! ### Bodies read back -/

/-- A field of `n` bytes at the front of a body. -/
theorem take_field (n v : Nat) (rest : List Byte) : (beBytes n v ++ rest).take n = beBytes n v :=
  List.take_left' (length_beBytes n v)

/-- What follows a field of `n` bytes at the front of a body. -/
theorem drop_field (n v : Nat) (rest : List Byte) : (beBytes n v ++ rest).drop n = rest :=
  List.drop_left' (length_beBytes n v)

/-- A HELLO without a defect is read back (R110, R111). -/
theorem parseBody_hello {session : Byte} {b : HelloBody} (n : SeqNum) (h : helloDefect session b = none) :
    parseBody 1 session n (beBytes 4 b.digest.toNat ++ [b.flags, b.window, b.revision]) = .ok (.hello b) := by
  have hread : ({ b with digest := BitVec.ofNat 32 (ofBE (beBytes 4 b.digest.toNat)) } : HelloBody) = b := by
    rw [ofNat_ofBE_beBytes _ (by omega)]
  have hflags : (beBytes 4 b.digest.toNat ++ [b.flags, b.window, b.revision]).getD 4 0 = b.flags := rfl
  have hwindow : (beBytes 4 b.digest.toNat ++ [b.flags, b.window, b.revision]).getD 5 0 = b.window := rfl
  have hrevision : (beBytes 4 b.digest.toNat ++ [b.flags, b.window, b.revision]).getD 6 0 = b.revision := rfl
  simp only [parseBody, if_true, take_field, hflags, hwindow, hrevision, hread, h]
  rfl

/-- A WELCOME is read back (R110). -/
theorem parseBody_welcome (session : Byte) (n : SeqNum) (r : WelcomeResult) :
    parseBody 2 session n [welcomeCode r] = .ok (.welcome r) := by
  cases r <;> rfl

/-- A BYE is read back (R110). -/
theorem parseBody_bye (session : Byte) (n : SeqNum) (r : ByeReason) :
    parseBody 3 session n [byeCode r] = .ok (.bye r) := by
  cases r <;> rfl

/-- A DATA frame's body is judged by its fields, once its length is in range (R110, R111). -/
theorem parseBody_data (session : Byte) (n : SeqNum) (addr : LineAddr) (be : ByteSet) {bytes : List Byte}
    (hlo : 1 ≤ bytes.length) (hhi : bytes.length ≤ 64) :
    parseBody 4 session n (beBytes 5 addr.toNat ++ beBytes 8 be.toNat ++ bytes) =
      (seqDefect (.data addr be bytes)).elim (.ok (.seq n (.data addr be bytes))) .error := by
  have hlen : (beBytes 5 addr.toNat ++ (beBytes 8 be.toNat ++ bytes)).length = 13 + bytes.length := by
    simp only [List.length_append, length_beBytes]
    omega
  have hrange : ¬(13 + bytes.length < 14 ∨ 77 < 13 + bytes.length) := by omega
  have hbytes : (beBytes 5 addr.toNat ++ (beBytes 8 be.toNat ++ bytes)).drop 13 = bytes := by
    rw [← List.append_assoc]
    exact List.drop_left' rfl
  rw [List.append_assoc, parseBody]
  simp only [hlen, hrange, hbytes, take_field, drop_field, ofNat_ofBE_beBytes addr (n := 5) (by omega),
    ofNat_ofBE_beBytes be (n := 8) (by omega)]
  cases seqDefect (.data addr be bytes) <;> rfl

/-- A MARK frame is read back (R110). -/
theorem parseBody_mark (session : Byte) (n : SeqNum) (value : BitVec 32) (region : Fin 32) :
    parseBody 5 session n (beBytes 4 value.toNat ++ beBytes 1 region.val) = .ok (.seq n (.mark value region)) := by
  have hregion : (BitVec.ofNat 8 region.val).toNat = region.val := by
    rw [BitVec.toNat_ofNat]
    omega
  rw [beBytes_one, parseBody]
  simp [ofNat_ofBE_beBytes, hregion, length_beBytes]

/-- A PAGE frame with its 256 bytes is read back (R110). -/
theorem parseBody_page (session : Byte) (n : SeqNum) (page : BitVec 28) (chunk : Fin 16) {bytes : List Byte}
    (h : bytes.length = 256) :
    parseBody 6 session n (beBytes 4 page.toNat ++ beBytes 1 chunk.val ++ bytes) =
      .ok (.seq n (.page page chunk bytes)) := by
  have hchunk : (BitVec.ofNat 8 chunk.val).toNat = chunk.val := by
    rw [BitVec.toNat_ofNat]
    omega
  have hpage : ofBE (beBytes 4 page.toNat) = page.toNat := ofBE_beBytes (by omega)
  have hlimit : page.toNat < 268435456 := page.isLt
  have hbytes : (beBytes 4 page.toNat ++ BitVec.ofNat 8 chunk.val :: bytes).drop 5 = bytes := rfl
  rw [beBytes_one, parseBody]
  simp [hchunk, hpage, hlimit, hbytes, length_beBytes, h]

/-- A DONE frame is read back (R110). -/
theorem parseBody_done (session : Byte) (n : SeqNum) (copied skipped : BitVec 32) :
    parseBody 7 session n (beBytes 4 copied.toNat ++ beBytes 4 skipped.toNat) =
      .ok (.seq n (.done copied skipped)) := by
  rw [parseBody]
  simp [ofNat_ofBE_beBytes, length_beBytes]

/-! ### Whole frames -/

/-- A frame as it travels, from its type code to its check code (R107, R108). -/
theorem encodeLink_eq (f : LinkFrame) : ∃ q1 q0 l1 l0 : Byte,
    [q1, q0] = beBytes 2 (frameSeq f.body).toNat ∧ [l1, l0] = beBytes 2 (frameBodyBytes f.body).length
    ∧ encodeLink f = checked ([frameType f.body, f.session, q1, q0, l1, l0] ++ frameBodyBytes f.body) :=
  ⟨_, _, _, _, rfl, rfl, rfl⟩

/-- A sequenced frame whose fields are those of R109 and R110 is read back, and its body length fits the header (R110,
R111). -/
theorem parseBody_seq (session : Byte) (n : SeqNum) {b : SeqBody} (h : seqDefect b = none) :
    parseBody (frameType (.seq n b)) session n (seqBodyBytes b) = .ok (.seq n b)
      ∧ (seqBodyBytes b).length < 65536 := by
  cases b with
  | data addr be bytes =>
    obtain ⟨hbe, hlen, -⟩ := seqDefect_data_none.1 h
    have hlo := enabledCount_pos hbe
    have hhi := enabledCount_le be
    refine ⟨?_, ?_⟩
    · rw [frameType, seqBodyBytes, parseBody_data session n addr be (by omega) (by omega), h, Option.elim_none]
    · simp only [seqBodyBytes, List.length_append, length_beBytes]
      omega
  | mark value region => exact ⟨parseBody_mark session n value region, by simp [seqBodyBytes, length_beBytes]⟩
  | page page chunk bytes =>
    have hlen : bytes.length = 256 := by simpa [seqDefect] using h
    exact ⟨parseBody_page session n page chunk hlen, by simp [seqBodyBytes, length_beBytes, hlen]⟩
  | done copied skipped => exact ⟨parseBody_done session n copied skipped, by simp [seqBodyBytes, length_beBytes]⟩

/-- A frame whose fields are those of R109 and R110: its body is read back, and its length fits the header (R110, R111). -/
theorem parseBody_frameBodyBytes {session : Byte} {b : FrameBody} (h : frameWf { session := session, body := b } = true) :
    parseBody (frameType b) session (frameSeq b) (frameBodyBytes b) = .ok b ∧ (frameBodyBytes b).length < 65536 := by
  cases b with
  | hello b => exact ⟨parseBody_hello 0 (by simpa [frameWf] using h), by simp [frameBodyBytes, length_beBytes]⟩
  | welcome r => exact ⟨parseBody_welcome session 0 r, by simp [frameBodyBytes]⟩
  | bye r => exact ⟨parseBody_bye session 0 r, by simp [frameBodyBytes]⟩
  | seq n b => exact parseBody_seq session n (by simpa [frameWf] using h)
  | ack n => exact ⟨rfl, by simp [frameBodyBytes]⟩
  | nak n => exact ⟨rfl, by simp [frameBodyBytes]⟩

/-- Every frame carries one of the type codes of R109. -/
theorem frameType_valid (b : FrameBody) : frameType b ≠ 0 ∧ (frameType b).toNat ≤ 9 := by
  cases b with
  | seq n b => cases b <;> simp [frameType]
  | _ => simp [frameType]

/-- A frame as it travels is read back by checks 1 to 4 (R107, R108, R111). -/
theorem parseLink_encodeLink {f : LinkFrame} (h : frameWf f = true) : parseLink (encodeLink f) = .ok f := by
  obtain ⟨session, b⟩ := f
  obtain ⟨hbody, hlen⟩ := parseBody_frameBodyBytes h
  obtain ⟨htype, htop⟩ := frameType_valid b
  obtain ⟨q1, q0, l1, l0, hseq, hlength, henc⟩ := encodeLink_eq { session := session, body := b }
  rw [henc, parseLink_body htype htop (by rw [hlength]; exact ofBE_beBytes hlen), hseq,
    ofNat_ofBE_beBytes _ (by omega), hbody]
  rfl

/-- The characters of a frame carry its bytes (R134, R137). -/
theorem sentCharacters_data (bs : List Byte) : (sentCharacters bs).map Character.data = bs := by
  cases bs with
  | nil => rfl
  | cons b bs => simp [sentCharacters, sentCharacter, Function.comp_def]

/-- Settles O49: the frame is read back from its bytes, which are those of its characters. -/
theorem encodedLinkFramesParseBack : Obligations.EncodedLinkFramesParseBack := by
  intro f hf
  rw [sentCharacters_data]
  exact ⟨parseLink_encodeLink hf, parseLink_encodeLink hf⟩

end Sys2Proof.Proofs
end

section
/-! PROOFS. What becomes of a mirror-link frame at the head of the link unit's deliveries: which frames checks 1 to 4 refuse,
which ones the checks by session and state refuse, and that a refused frame is counted and nothing else (R108 to R111, R125 to
R128, R142, R150). -/
namespace Sys2Proof.Proofs

open Sys2Proof.Machine Sys2Proof.Safety

/-! ### Checks 1 to 4 -/

/-- A code above 2 names no WELCOME result (R110). -/
theorem welcomeOfCode_none {b : Byte} (h : 2 < b.toNat) : welcomeOfCode b = none := by
  have hne : b ≠ 0 ∧ b ≠ 1 ∧ b ≠ 2 := by
    refine ⟨?_, ?_, ?_⟩ <;> rintro rfl <;> exact absurd h (by decide)
  obtain ⟨h0, h1, h2⟩ := hne
  rw [welcomeOfCode, if_neg h0, if_neg h1, if_neg h2]

/-- A code above 4 names no BYE reason (R110). -/
theorem byeOfCode_none {b : Byte} (h : 4 < b.toNat) : byeOfCode b = none := by
  have hne : b ≠ 0 ∧ b ≠ 1 ∧ b ≠ 2 ∧ b ≠ 3 ∧ b ≠ 4 := by
    refine ⟨?_, ?_, ?_, ?_, ?_⟩ <;> rintro rfl <;> exact absurd h (by decide)
  obtain ⟨h0, h1, h2, h3, h4⟩ := hne
  rw [byeOfCode, if_neg h0, if_neg h1, if_neg h2, if_neg h3, if_neg h4]

/-- A first byte of 16 or more spells a number from page 2^28 on (R70, R111). -/
theorem ofBE_four_high {a b c d : Byte} (h : 16 ≤ a.toNat) : 268435456 ≤ ofBE [a, b, c, d] := by
  simp only [ofBE, List.foldl_cons, List.foldl_nil]
  omega

/-- Check 3 on the body of each type: a length that the type does not have (R110, R111). -/
theorem parseBody_badLength {t : Byte} {body : List Byte} (session : Byte) (n : SeqNum)
    (h : (t = 1 ∧ body.length ≠ 7) ∨ ((t = 2 ∨ t = 3) ∧ body.length ≠ 1)
      ∨ (t = 4 ∧ (body.length < 14 ∨ 77 < body.length)) ∨ (t = 5 ∧ body.length ≠ 5)
      ∨ (t = 6 ∧ body.length ≠ 261) ∨ (t = 7 ∧ body.length ≠ 8) ∨ ((t = 8 ∨ t = 9) ∧ body.length ≠ 0)) :
    parseBody t session n body = .error .length := by
  rcases h with ⟨rfl, h⟩ | ⟨rfl | rfl, h⟩ | ⟨rfl, h⟩ | ⟨rfl, h⟩ | ⟨rfl, h⟩ | ⟨rfl, h⟩ | ⟨rfl | rfl, h⟩
  all_goals simp [parseBody, h]

/-- Check 4 on the body of each type: a field without a defined value (R110, R111). -/
theorem parseBody_badField {t session : Byte} {body : List Byte} (n : SeqNum)
    (h : (t = 1 ∧ body.length = 7 ∧ (session = 0 ∨ body.getD 5 0 = 0 ∨ 128 < (body.getD 5 0).toNat))
      ∨ (t = 2 ∧ body.length = 1 ∧ 2 < (body.getD 0 0).toNat)
      ∨ (t = 3 ∧ body.length = 1 ∧ 4 < (body.getD 0 0).toNat)
      ∨ (t = 5 ∧ body.length = 5 ∧ 32 ≤ (body.getD 4 0).toNat)
      ∨ (t = 6 ∧ body.length = 261 ∧ (16 ≤ (body.getD 0 0).toNat ∨ 16 ≤ (body.getD 4 0).toNat))) :
    parseBody t session n body = .error .body := by
  rcases h with ⟨rfl, hlen, h⟩ | ⟨rfl, hlen, h⟩ | ⟨rfl, hlen, h⟩ | ⟨rfl, hlen, h⟩ | ⟨rfl, hlen, h⟩
  · match body, hlen with
    | [_, _, _, _, flags, window, revision], _ =>
      have hdefect : ∀ digest, helloDefect session
          { digest := digest, flags := flags, window := window, revision := revision } = some .body :=
        fun _ => if_pos h
      simp [parseBody, hdefect]
  · match body, hlen with
    | [code], _ => simp [parseBody, welcomeOfCode_none (b := code) h]
  · match body, hlen with
    | [code], _ => simp [parseBody, byeOfCode_none (b := code) h]
  · match body, hlen with
    | [_, _, _, _, region], _ =>
      have hregion : ¬region.toNat < 32 := Nat.not_lt.2 h
      simp [parseBody, hregion]
  · match body, hlen with
    | a :: b :: c :: d :: chunk :: bytes, hlen =>
      rcases h with h | h
      · have hpage : ¬ofBE [a, b, c, d] < 268435456 := Nat.not_lt.2 (ofBE_four_high h)
        simp [parseBody, hlen, hpage]
      · have hchunk : ¬chunk.toNat < 16 := Nat.not_lt.2 h
        simp [parseBody, hlen, hchunk]

/-- Check 3 on a DATA frame: other bytes than its byte-enable set names (R110, R111). -/
theorem seqDefect_data_length {addr : LineAddr} {be : ByteSet} {bytes : List Byte}
    (h : bytes.length ≠ enabledCount be) : seqDefect (.data addr be bytes) = some .length :=
  if_pos (.inr h)

/-- Check 4 on a DATA frame: an address that is no line's (R110, R111). -/
theorem seqDefect_data_body {addr : LineAddr} {be : ByteSet} {bytes : List Byte} (hbe : be ≠ 0)
    (hlen : bytes.length = enabledCount be) (h : addr.toNat % 64 ≠ 0) :
    seqDefect (.data addr be bytes) = some .body := by
  rw [seqDefect, if_neg (not_or.2 ⟨hbe, not_not_intro hlen⟩), if_pos h]

/-- A frame whose body does not parse is refused under the same cause (R111). -/
theorem parseLink_badBody {t session q1 q0 l1 l0 : Byte} {body : List Byte} {c : DiscardCause} (h1 : 1 ≤ t.toNat)
    (h9 : t.toNat ≤ 9) (hlen : 256 * l1.toNat + l0.toNat = body.length)
    (h : ∀ n, parseBody t session n body = .error c) :
    parseLink (checked ([t, session, q1, q0, l1, l0] ++ body)) = .error c := by
  have h0 : t ≠ 0 := by
    rintro rfl
    exact absurd h1 (by decide)
  rw [parseLink_body h0 h9 ((ofBE_pair l1 l0).trans hlen), h]
  rfl

/-! ### Checks by session and state -/

/-- A primary refuses a sequenced frame (R111). -/
theorem stateVerdict_primary_seq {f : LinkFrame} {s : State} (hr : s.role = .primary)
    (h : ∃ n b, f.body = .seq n b) : stateVerdict f s = some .state := by
  obtain ⟨n, b, hb⟩ := h
  simp [stateVerdict, hr, hb]

/-- The frames that a primary takes within a session: WELCOME, BYE, ACK and NAK (R111). -/
def isSessionFrame (f : LinkFrame) : Prop :=
  (∃ r, f.body = .welcome r) ∨ (∃ r, f.body = .bye r) ∨ (∃ n, f.body = .ack n ∨ f.body = .nak n)

/-- A primary refuses a frame of another session than its own (R111). -/
theorem stateVerdict_primary_session {f : LinkFrame} {s : State} (hr : s.role = .primary) (hf : isSessionFrame f)
    (h : f.session ≠ s.link.session) : stateVerdict f s = some .session := by
  rcases hf with ⟨r, hb⟩ | ⟨r, hb⟩ | ⟨n, hb | hb⟩ <;> simp [stateVerdict, hr, hb, h]

/-- In IDLE a primary takes no frame of its session (R111). -/
theorem stateVerdict_primary_idle {f : LinkFrame} {s : State} (hr : s.role = .primary) (hf : isSessionFrame f)
    (h : f.session = s.link.session) (hs : s.link.state = .idle) : stateVerdict f s = some .state := by
  rcases hf with ⟨r, hb⟩ | ⟨r, hb⟩ | ⟨n, hb | hb⟩ <;> simp [stateVerdict, hr, hb, h, hs]

/-- Outside UP a primary takes no ACK and no NAK (R125, R126). -/
theorem stateVerdict_primary_ack {f : LinkFrame} {s : State} (hr : s.role = .primary)
    (hf : ∃ n, f.body = .ack n ∨ f.body = .nak n) (h : f.session = s.link.session) (hs : s.link.state ≠ .up) :
    stateVerdict f s = some .state := by
  obtain ⟨n, hb | hb⟩ := hf <;> simp [stateVerdict, hr, hb, h, hs]

/-- Outside HELLO_WAIT a primary takes no WELCOME (R116). -/
theorem stateVerdict_primary_welcome {f : LinkFrame} {s : State} (hr : s.role = .primary)
    (hf : ∃ r, f.body = .welcome r) (h : f.session = s.link.session) (hs : s.link.state ≠ .helloWait) :
    stateVerdict f s = some .state := by
  obtain ⟨r, hb⟩ := hf
  simp [stateVerdict, hr, hb, h, hs]

/-- A replica in OFF takes no frame (R150). -/
theorem stateVerdict_replica_off (f : LinkFrame) {s : State} (hr : s.role = .replica) (hs : s.replica.state = .off) :
    stateVerdict f s = some .state := by
  simp [stateVerdict, hr, hs]

/-- A replica in LISTENING takes a HELLO alone (R150). -/
theorem stateVerdict_replica_listening {f : LinkFrame} {s : State} (hr : s.role = .replica)
    (hs : s.replica.state = .listening) : stateVerdict f s = if isHello f then none else some .state := by
  cases hb : f.body <;> simp [stateVerdict, hr, hs, hb, isHello]

/-- A replica in SESSION takes no WELCOME, ACK or NAK (R150). -/
theorem stateVerdict_replica_answer {f : LinkFrame} {s : State} (hr : s.role = .replica)
    (hs : s.replica.state = .session) (hf : isWelcome f = true ∨ isAckFrame f = true) :
    stateVerdict f s = some .state := by
  cases hb : f.body <;> simp_all [stateVerdict, isWelcome, isAckFrame]

/-- A replica in SESSION takes a sequenced frame or a BYE of its own session alone (R150). -/
theorem stateVerdict_replica_session {f : LinkFrame} {s : State} (hr : s.role = .replica)
    (hs : s.replica.state = .session) (hf : (∃ n b, f.body = .seq n b) ∨ isBye f = true) :
    stateVerdict f s = if f.session = s.replica.session then none else some .session := by
  cases hb : f.body <;> simp_all [stateVerdict, isBye]

/-! ### Frames discarded -/

/-- A delivery that is discarded is counted under its cause, and nothing else changes (R111, R142). -/
theorem exec_frameDiscarded {d : Delivery} {c : DiscardCause} {s : State} (hp : s.phase = .running)
    (h : discardCause d s = some c) :
    exec (.frameDiscarded d) (handed .link d s) = .next (countedUp (.discarded c) s) := by
  simp [exec, execFrameDiscarded, live_running, hp, takeDelivery_handed, h, discard_eq]

/-- A frame that fails a check by session or state is counted under its cause (R111, R150). -/
theorem exec_frameDiscarded_parsed {bs : List Byte} {f : LinkFrame} {c : DiscardCause} {s : State}
    (hp : s.phase = .running) (hbs : parseLink bs = .ok f) (h : stateVerdict f s = some c) :
    exec (.frameDiscarded (.frame bs)) (handed .link (.frame bs) s) = .next (countedUp (.discarded c) s) :=
  exec_frameDiscarded hp (by simp only [discardCause, hbs, h])

/-- Settles O23: a delivery that is discarded is only counted, and the checks say which are. -/
theorem discardedFramesAreOnlyCounted : Obligations.DiscardedFramesAreOnlyCounted := by
  refine ⟨fun s h hp => exec_frameDiscarded hp rfl, fun s bs c hp hbs => exec_frameDiscarded hp ?_,
    fun front check => parseLink_badCrc, fun t n q1 q0 l1 l0 body => ⟨fun ht => ?_, fun h1 h9 hlen => ⟨fun h => ?_,
    fun h => ?_, fun a be bytes ht hlo hhi hbody => ?_⟩⟩, fun s bs f hp hbs hr => ?_, fun s bs f hp hbs hr => ?_,
    fun s d hd => ?_⟩
  · simp only [discardCause, hbs]
  · rw [parseLink_checked, if_pos ht]
  · exact parseLink_badBody h1 h9 hlen fun n => parseBody_badLength _ n h
  · exact parseLink_badBody h1 h9 hlen fun n => parseBody_badField n h
  · subst ht
    have hcount : body.length = 13 + bytes.length := by
      rw [hbody]
      simp only [List.length_append, length_beBytes]
    refine ⟨fun h => parseLink_badBody h1 h9 hlen fun n => ?_, fun heq h => parseLink_badBody h1 h9 hlen fun n => ?_⟩
    · rw [hbody, parseBody_data _ n a be (by omega) (by omega), seqDefect_data_length h]
      rfl
    · have hbe : be ≠ 0 := by
        rintro rfl
        rw [enabledCount_zero] at heq
        omega
      rw [hbody, parseBody_data _ n a be (by omega) (by omega), seqDefect_data_body hbe heq h]
      rfl
  · refine ⟨fun n b hf => exec_frameDiscarded_parsed hp hbs (stateVerdict_primary_seq hr ⟨n, b, hf⟩),
      fun hf => ⟨fun hne => exec_frameDiscarded_parsed hp hbs (stateVerdict_primary_session hr hf hne),
        fun heq hs => exec_frameDiscarded_parsed hp hbs (stateVerdict_primary_idle hr hf heq hs)⟩,
      fun n hf heq hs => exec_frameDiscarded_parsed hp hbs (stateVerdict_primary_ack hr ⟨n, hf⟩ heq (by simp [hs])),
      fun r hf heq hs => exec_frameDiscarded_parsed hp hbs (stateVerdict_primary_welcome hr ⟨r, hf⟩ heq (by simp [hs]))⟩
  · refine ⟨fun hs => exec_frameDiscarded_parsed hp hbs (stateVerdict_replica_off f hr hs),
      fun hs hf => exec_frameDiscarded_parsed hp hbs ?_,
      fun hs hf => exec_frameDiscarded_parsed hp hbs (stateVerdict_replica_answer hr hs hf),
      fun hs hf hne => exec_frameDiscarded_parsed hp hbs ?_⟩
    · rw [stateVerdict_replica_listening hr hs, hf]
      rfl
    · rw [stateVerdict_replica_session hr hs hf, if_neg hne]
  · have hnone : takeDelivery .link
        (fun x s => if x = d then (discardCause x s).map (fun c => Machine.discard c s) else none) s = s := by
      rw [takeDelivery, show (lineOf .link s).delivered = [] from hd]
    simp only [exec, execFrameDiscarded, live_next, hnone, ite_self]

end Sys2Proof.Proofs
end

section
/-! PROOFS. The mirror-link frames that a part takes: HELLO in either role, BYE at a replica, and ACK and NAK in range at a
primary, with what a removal and a rewind do (R20, R21, R111, R124 to R126, R131, R149 to R154, R165). -/
namespace Sys2Proof.Proofs

open Sys2Proof.Machine Sys2Proof.Safety

/-! ### Frames taken or refused -/

/-- A frame at the head of the deliveries that passes checks 5 and 6 is taken (R111, R142). -/
theorem takeFrame_taken {f : LinkFrame} {bs : List Byte} {s : State} (act : State → State)
    (hbs : parseLink bs = .ok f) (h : stateVerdict f s = none) :
    takeFrame f act (handed .link (.frame bs) s) = act s := by
  simp only [takeFrame_handed act s hbs, judged, h]

/-- A frame at the head of the deliveries that fails check 5 or 6 is counted and nothing else (R111, R142). -/
theorem takeFrame_refused {f : LinkFrame} {bs : List Byte} {c : DiscardCause} {s : State} (act : State → State)
    (hbs : parseLink bs = .ok f) (h : stateVerdict f s = some c) :
    takeFrame f act (handed .link (.frame bs) s) = countedUp (.discarded c) s := by
  simp only [takeFrame_handed act s hbs, judged, h, discard_eq]

/-- In UP a primary takes a BYE, an ACK or a NAK of its session (R125, R126, R128). -/
theorem stateVerdict_primary_up {f : LinkFrame} {s : State} (hr : s.role = .primary) (hs : s.link.state = .up)
    (h : f.session = s.link.session) (hf : (∃ r, f.body = .bye r) ∨ ∃ n, f.body = .ack n ∨ f.body = .nak n) :
    stateVerdict f s = none := by
  rcases hf with ⟨r, hb⟩ | ⟨n, hb | hb⟩ <;> simp [stateVerdict, hr, hs, h, hb]

/-- A replica outside OFF takes a HELLO of any session (R150). -/
theorem stateVerdict_replica_hello {f : LinkFrame} {s : State} (hr : s.role = .replica) (hs : s.replica.state ≠ .off)
    (hf : ∃ h, f.body = .hello h) : stateVerdict f s = none := by
  obtain ⟨h, hb⟩ := hf
  cases hst : s.replica.state with
  | off => exact absurd hst hs
  | listening => simp [stateVerdict, hr, hst, hb]
  | session => simp [stateVerdict, hr, hst, hb]

/-- A BYE at a primary goes through the checks of the link unit (R128). -/
theorem exec_byeTaken {s : State} (session : Byte) (reason : ByeReason) (d : Delivery) (hp : s.phase = .running)
    (hr : s.role = .primary) : exec (.byeTaken session reason) (handed .link d s) =
      .next (takeFrame { session := session, body := .bye reason } (peerLeft reason) (handed .link d s)) := by
  simp [exec, execByeTaken, live_running, hp, hr]

/-- A BYE at a replica goes through the checks of the link unit (R150). -/
theorem exec_replicaByeTaken {s : State} (session : Byte) (reason : ByeReason) (d : Delivery) (hp : s.phase = .running)
    (hr : s.role = .replica) : exec (.replicaByeTaken session reason) (handed .link d s) =
      .next (takeFrame { session := session, body := .bye reason } (leaveSession none .listening) (handed .link d s)) := by
  simp [exec, execReplicaByeTaken, live_running, hp, hr]

/-- A HELLO at a replica goes through the checks of the link unit (R150). -/
theorem exec_helloTaken {s : State} (session : Byte) (h : HelloBody) (d : Delivery) (hp : s.phase = .running)
    (hr : s.role = .replica) : exec (.helloTaken session h) (handed .link d s) =
      .next (takeFrame { session := session, body := .hello h } (helloArrived session h) (handed .link d s)) := by
  simp [exec, execHelloTaken, live_running, hp, hr]

/-- A primary in UP takes an ACK of its session (R125). -/
theorem exec_ackTaken {s : State} {session : Byte} {n : SeqNum} {bs : List Byte} (h : TakesAck session s)
    (hbs : parseLink bs = .ok { session := session, body := .ack n }) :
    exec (.ackTaken session n) (handed .link (.frame bs) s) = .next (ackArrived n s) := by
  obtain ⟨hp, hr, hs, hsession⟩ := h
  rw [exec, execAckTaken, live_running (by simpa using hp), takeFrame_taken _ hbs
    (stateVerdict_primary_up hr hs hsession (.inr ⟨n, .inl rfl⟩))]

/-- A primary in UP takes a NAK of its session (R126). -/
theorem exec_nakTaken {s : State} {session : Byte} {n : SeqNum} {bs : List Byte} (h : TakesAck session s)
    (hbs : parseLink bs = .ok { session := session, body := .nak n }) :
    exec (.nakTaken session n) (handed .link (.frame bs) s) = .next (nakArrived n s) := by
  obtain ⟨hp, hr, hs, hsession⟩ := h
  rw [exec, execNakTaken, live_running (by simpa using hp), takeFrame_taken _ hbs
    (stateVerdict_primary_up hr hs hsession (.inr ⟨n, .inr rfl⟩))]

/-! ### HELLO at a primary -/

/-- Whether a BYE(ROLE_CONFLICT) waits in the control queue (R119, R131). -/
theorem conflictWaits_iff (l : Link) :
    l.conflictWaits = true ↔ ∃ f ∈ l.control, f.body = .bye .roleConflict := by
  simp only [Link.conflictWaits, List.any_eq_true]
  refine exists_congr fun f => and_congr_right fun _ => ?_
  cases f.body <;> simp

/-- A HELLO at a primary: counted under ROLE, and answered unless a BYE(ROLE_CONFLICT) waits (R131). -/
theorem roleConflict_eq (session : Byte) (s : State) : roleConflict session s = countedUp (.discarded .role)
    (if s.link.conflictWaits then s
    else { s with link := { s.link with control := s.link.control ++
      [{ session := session, body := .bye .roleConflict }] } }) := by
  have hwaits : (Machine.discard .role s).link.conflictWaits = s.link.conflictWaits := rfl
  simp only [roleConflict, hwaits]
  split <;> rfl

/-- A HELLO that a primary takes (R131). -/
theorem exec_helloRoleConflict {s : State} {session : Byte} {h : HelloBody} {bs : List Byte} (hp : s.phase = .running)
    (hr : s.role = .primary) (hbs : parseLink bs = .ok { session := session, body := .hello h }) :
    exec (.helloRoleConflict session) (handed .link (.frame bs) s) = .next (roleConflict session s) := by
  have hof : helloOf session (.frame bs) = true := by
    simp [helloOf, linkFrameOf, hbs, isHello]
  simp [exec, execHelloRoleConflict, live_running, hp, hr, takeDelivery_handed, hof]

/-- Settles O24: the control queue is read for a BYE(ROLE_CONFLICT) that already waits. -/
theorem helloAtAPrimaryIsRefused : Obligations.HelloAtAPrimaryIsRefused := by
  intro s session h bs hp hr hbs
  rw [exec_helloRoleConflict hp hr hbs, roleConflict_eq]
  simp only [conflictWaits_iff]

/-! ### HELLO and BYE at a replica -/

/-- A HELLO judged: refused by revision or by digest, or accepted with its session's fields set (R151, R152, R165). -/
theorem judgeHello_eq (session : Byte) (h : HelloBody) (s : State) : judgeHello session h s = { s with
    replica := if h.revision ≠ 1 then s.replica.sendWelcome session .refuseRevision
      else if h.digest ≠ regionDigest s.regions then s.replica.sendWelcome session .refuseRegions
      else { s.replica with
        state := .session, session := session, expected := 0, ackPoint := 0, retired := 0, nakOutstanding := false,
        nakDue := false, catchupFollows := h.flags.getLsbD 0, cleanStart := h.flags.getLsbD 1,
        window := h.window.toNat, welcomePending := true } } := by
  unfold judgeHello
  split
  · rfl
  · split <;> rfl

/-- A HELLO that a replica takes in LISTENING is judged (R151). -/
theorem exec_helloTaken_listening {s : State} {session : Byte} {h : HelloBody} {bs : List Byte} (hp : s.phase = .running)
    (hr : s.role = .replica) (hs : s.replica.state = .listening)
    (hbs : parseLink bs = .ok { session := session, body := .hello h }) :
    exec (.helloTaken session h) (handed .link (.frame bs) s) = .next (judgeHello session h s) := by
  rw [exec_helloTaken session h _ hp hr,
    takeFrame_taken _ hbs (stateVerdict_replica_hello hr (by simp [hs]) ⟨h, rfl⟩), helloArrived, hs]

/-- A HELLO that a replica takes in SESSION: answered again for its own session, and judged after another one is left (R153,
R154). -/
theorem exec_helloTaken_session {s : State} {session : Byte} {h : HelloBody} {bs : List Byte} (hp : s.phase = .running)
    (hr : s.role = .replica) (hs : s.replica.state = .session)
    (hbs : parseLink bs = .ok { session := session, body := .hello h }) :
    exec (.helloTaken session h) (handed .link (.frame bs) s) = .next (if session = s.replica.session
      then helloAgain session s else judgeHello session h (leaveSession none .listening s)) := by
  rw [exec_helloTaken session h _ hp hr,
    takeFrame_taken _ hbs (stateVerdict_replica_hello hr (by simp [hs]) ⟨h, rfl⟩), helloArrived, hs]

/-- Settles O30: each frame by the replica state in which it is taken. -/
theorem helloAndByeAtAReplica : Obligations.HelloAndByeAtAReplica := by
  refine ⟨fun s session h bs hp hr hbs => ⟨fun hs => ?_, fun hs heq => ?_, fun hs hne => ?_, fun hs => ?_⟩,
    fun s session reason bs hp hr hbs => ⟨fun hs heq => ?_, fun hs hne => ?_, fun hs => ?_⟩⟩
  · rw [exec_helloTaken_listening hp hr hs hbs, judgeHello_eq]
    rfl
  · rw [exec_helloTaken_session hp hr hs hbs, if_pos heq]
    rfl
  · have hjudged := exec_helloTaken_listening (s := sessionLeft none .listening s) hp hr rfl hbs
    rw [exec_helloTaken_session hp hr hs hbs, if_neg hne, hjudged, leaveSession_eq]
  · rw [exec_helloTaken session h _ hp hr, takeFrame_refused _ hbs (stateVerdict_replica_off _ hr hs)]
  · have htaken := stateVerdict_replica_session (f := { session := session, body := .bye reason }) hr hs (.inr rfl)
    rw [if_pos heq] at htaken
    rw [exec_replicaByeTaken session reason _ hp hr, takeFrame_taken _ hbs htaken, leaveSession_eq]
  · have hrefused := stateVerdict_replica_session (f := { session := session, body := .bye reason }) hr hs (.inr rfl)
    rw [if_neg hne] at hrefused
    rw [exec_replicaByeTaken session reason _ hp hr, takeFrame_refused _ hbs hrefused]
  · have hrefused : stateVerdict { session := session, body := .bye reason } s = some .state := by
      cases hst : s.replica.state with
      | off => exact stateVerdict_replica_off _ hr hst
      | listening => exact stateVerdict_replica_listening hr hst
      | session => exact absurd hst hs
    rw [exec_replicaByeTaken session reason _ hp hr, takeFrame_refused _ hbs hrefused]

/-! ### Rewinds -/

/-- An entry carries a sequence exactly if it is SENT with it (R2, R4). -/
theorem seq?_eq_some {e : JEntry} {n : SeqNum} : e.seq? = some n ↔ e.state = .sent n := by
  unfold JEntry.seq?
  cases e.state <;> simp

/-- A rewind to a sequence moves the send point alone (R20). -/
theorem rewindTo_frame (n : SeqNum) (j : Journal) : j.rewindTo n = { j with sendPoint := (j.rewindTo n).sendPoint } := by
  unfold Journal.rewindTo
  split <;> rfl

/-- A rewind to a sequence that an entry carries moves the send point to the oldest such entry (R20). -/
theorem rewindTo_found {j : Journal} {n : SeqNum} {front back : List JEntry} {e : JEntry}
    (hj : j.entries = front ++ e :: back) (he : e.state = .sent n) (hfront : ∀ x ∈ front, x.state ≠ .sent n) :
    j.rewindTo n = { j with sendPoint := front.length } := by
  have hskip : front.findIdx? (fun e => e.seq? == some n) = none := by
    simpa [List.findIdx?_eq_none_iff, seq?_eq_some] using hfront
  have hfind : j.entries.findIdx? (fun e => e.seq? == some n) = some front.length := by
    rw [hj, List.findIdx?_append, hskip, List.findIdx?_cons, seq?_eq_some.2 he]
    simp
  simp only [Journal.rewindTo, hfind]

/-- A rewind to a sequence that no entry carries leaves the send point where it is (R20). -/
theorem rewindTo_none {j : Journal} {n : SeqNum} (h : ∀ x ∈ j.entries, x.state ≠ .sent n) : j.rewindTo n = j := by
  have hfind : j.entries.findIdx? (fun e => e.seq? == some n) = none := by
    simpa [List.findIdx?_eq_none_iff, seq?_eq_some] using h
  simp only [Journal.rewindTo, hfind]

/-! ### ACK and NAK -/

/-- An ACK in range: nothing for a distance of 0, and otherwise the removal with the retry counter cleared (R124, R125). -/
theorem ackArrived_inRange {s : State} {n : SeqNum} {d : Nat} (hd : (n - s.journal.ackBase).toNat = d)
    (h : d ≤ s.journal.sentCount) : ackArrived n s = if d = 0 then s
      else { removedOldest d s with link := { (removedOldest d s).link with retry := 0 } } := by
  have hdist : s.journal.ackDistance n = d := hd
  simp only [ackArrived, hdist, if_neg (Nat.not_lt.2 h), removeAcked_eq]
  rfl

/-- An ACK out of range: the session is lost (R124). -/
theorem ackArrived_outOfRange {s : State} {n : SeqNum} (h : s.journal.sentCount < (n - s.journal.ackBase).toNat) :
    ackArrived n s = protocolLoss s :=
  if_pos h

/-- A NAK that removes nothing: rewound, and the retry counter one higher and compared with its limit (R124, R126, R127). -/
theorem nakArrived_first {s : State} {n : SeqNum} (hd : (n - s.journal.ackBase).toNat = 0) :
    nakArrived n s = checkRetry { s with
      journal := s.journal.rewindTo n, link := { s.link with retry := s.link.retry + 1 } } := by
  have hdist : s.journal.ackDistance n = 0 := hd
  simp only [nakArrived, hdist, if_neg (Nat.not_lt_zero _), if_true]
  rfl

/-- A NAK in range that removes entries: rewound, and the retry counter 1 and compared with its limit (R124, R126, R127). -/
theorem nakArrived_removes {s : State} {n : SeqNum} {d : Nat} (hd : (n - s.journal.ackBase).toNat = d)
    (h : d ≤ s.journal.sentCount) (h1 : 1 ≤ d) : nakArrived n s = checkRetry { removedOldest d s with
      journal := (removedOldest d s).journal.rewindTo n, link := { (removedOldest d s).link with retry := 1 } } := by
  have hdist : s.journal.ackDistance n = d := hd
  have hne : d ≠ 0 := by omega
  simp only [nakArrived, hdist, if_neg (Nat.not_lt.2 h), if_neg hne, removeAcked_eq]
  rfl

/-- A NAK out of range: the session is lost (R124). -/
theorem nakArrived_outOfRange {s : State} {n : SeqNum} (h : s.journal.sentCount < (n - s.journal.ackBase).toNat) :
    nakArrived n s = protocolLoss s :=
  if_pos h

/-- Settles O28: the distance says what is removed, and the retry counter stays within its limit. -/
theorem acknowledgementRemovesAndRewinds : Obligations.AcknowledgementRemovesAndRewinds := by
  refine ⟨fun s session n d bs htakes hd hrange => ⟨fun hbs => ⟨fun h0 => ?_, fun h1 => ?_⟩,
    fun hbs => ⟨fun h0 hretry => ?_, fun h1 hlimit => ?_⟩⟩,
    fun j n => ⟨fun front back e => rewindTo_found, rewindTo_none⟩⟩
  · rw [exec_ackTaken htakes hbs, ackArrived_inRange hd hrange, if_pos h0]
  · rw [exec_ackTaken htakes hbs, ackArrived_inRange hd hrange, if_neg (by omega)]
  · rw [exec_nakTaken htakes hbs, nakArrived_first (hd.trans h0), checkRetry_within hretry]
  · rw [exec_nakTaken htakes hbs, nakArrived_removes hd hrange h1, checkRetry_within hlimit]

end Sys2Proof.Proofs
end

section
/-! PROOFS. A session lost in UP: what conversion leaves of the mirror block, the counters and the journal, the end of a drain,
and the five ways in which a primary in UP loses its session (R23, R29, R46, R52, R122, R124, R127 to R129). -/
namespace Sys2Proof.Proofs

open Sys2Proof.Machine Sys2Proof.Safety

/-! ### Conversion -/

/-- The part whose session is lost, before any entry of its journal is converted: no page COPYING (R46, R129). -/
def conversionStart (cause : LossCause) (s : State) : State :=
  (linkLost cause s).withMirror { s.mirror with copying := none }

/-- The part with the entries of a lost session's journal handed to the dirty page map and the counters (R23, R46). -/
def entriesConverted (cause : LossCause) (s : State) : State :=
  s.journal.entries.foldl convertEntry (conversionStart cause s)

/-- The mirror block after a session lost, its marks and totals left out: TRACKING with catch-up-active set, the cursor and the
pass count kept if it was set before (R29, R46). -/
def trackingRest (m : Mirror) : Mirror :=
  { m.setCatchup with state := .tracking, marks := [], copying := none, copied := 0, skipped := 0 }

/-- A mark changes nothing but the marks, the recopy flag and what the end of conversion sets anyway (R29, R36). -/
theorem trackingRest_mark (p : Nat) (m : Mirror) : trackingRest (m.mark p) = trackingRest m := by
  unfold Mirror.mark
  dsimp only
  split
  · rfl
  · simp only [trackingRest, Mirror.setCatchup, Mirror.touch, if_true]
    rfl

/-- Converting an entry changes the marks and the totals of the mirror block, and what the end of conversion sets anyway (R23,
R46). -/
theorem trackingRest_convertEntry (s : State) (e : JEntry) :
    trackingRest (convertEntry s e).mirror = trackingRest s.mirror := by
  unfold convertEntry
  split
  · exact trackingRest_mark _ _
  · exact trackingRest_mark _ _
  · rfl
  · rfl

/-- Converting a list of entries changes no more of the mirror block than converting each does (R23, R46). -/
theorem trackingRest_convertEntries (l : List JEntry) (s : State) :
    trackingRest (l.foldl convertEntry s).mirror = trackingRest s.mirror := by
  induction l generalizing s with
  | nil => rfl
  | cons e l ih => rw [List.foldl_cons, ih, trackingRest_convertEntry]

/-- A mark leaves the catch-up totals as they are (R36). -/
theorem mark_totals (p : Nat) (m : Mirror) : (m.mark p).copied = m.copied ∧ (m.mark p).skipped = m.skipped := by
  unfold Mirror.mark
  dsimp only
  split <;> exact ⟨rfl, rfl⟩

/-- Converting an entry adds a DONE entry's figures to each total, held at 2^32 - 1 (R46). -/
theorem convertEntry_totals (s : State) (e : JEntry) :
    (s.mirror.copied ≤ 4294967295 →
      (convertEntry s e).mirror.copied = min 4294967295 (s.mirror.copied + (doneFigures e).1))
    ∧ (s.mirror.skipped ≤ 4294967295 →
      (convertEntry s e).mirror.skipped = min 4294967295 (s.mirror.skipped + (doneFigures e).2)) := by
  obtain ⟨id, body, state⟩ := e
  cases body with
  | data addr _ _ _ _ =>
    obtain ⟨hcopied, hskipped⟩ := mark_totals (pageOf addr) s.mirror
    exact ⟨fun h => hcopied.trans (Nat.min_eq_right h).symm, fun h => hskipped.trans (Nat.min_eq_right h).symm⟩
  | page p _ _ _ =>
    obtain ⟨hcopied, hskipped⟩ := mark_totals p s.mirror
    exact ⟨fun h => hcopied.trans (Nat.min_eq_right h).symm, fun h => hskipped.trans (Nat.min_eq_right h).symm⟩
  | mark _ _ _ => exact ⟨fun h => (Nat.min_eq_right h).symm, fun h => (Nat.min_eq_right h).symm⟩
  | done _ _ => exact ⟨fun _ => rfl, fun _ => rfl⟩

/-- A total to which every entry adds its figure, held at 2^32 - 1, ends with the figures of all entries added (R46). -/
theorem convertEntries_total {total : State → Nat} {figure : JEntry → Nat}
    (hstep : ∀ s e, total s ≤ 4294967295 → total (convertEntry s e) = min 4294967295 (total s + figure e))
    (l : List JEntry) {s : State} (h : total s ≤ 4294967295) :
    total (l.foldl convertEntry s) = min 4294967295 (total s + (l.map figure).sum) := by
  induction l generalizing s with
  | nil => exact (Nat.min_eq_right h).symm
  | cons e l ih =>
    have he := hstep s e h
    rw [List.foldl_cons, ih (by omega), he, List.map_cons, List.sum_cons]
    omega

/-- The mirror block after conversion, with its marks and totals (R29, R46). -/
theorem entriesConverted_mirror (cause : LossCause) (s : State) :
    { (entriesConverted cause s).mirror.setCatchup with state := .tracking } = { s.mirror with
      state := .tracking, catchupActive := true, copying := none, marks := (entriesConverted cause s).mirror.marks,
      copied := (entriesConverted cause s).mirror.copied, skipped := (entriesConverted cause s).mirror.skipped,
      cursor := if s.mirror.catchupActive then s.mirror.cursor else 0,
      passCount := if s.mirror.catchupActive then s.mirror.passCount else 0 } := by
  have hcopying : (entriesConverted cause s).mirror.copying = none := convertEntries_copying _ _ rfl
  have hrest := trackingRest_convertEntries s.journal.entries (conversionStart cause s)
  calc { (entriesConverted cause s).mirror.setCatchup with state := .tracking }
      = { trackingRest (entriesConverted cause s).mirror with
          marks := (entriesConverted cause s).mirror.marks, copying := (entriesConverted cause s).mirror.copying,
          copied := (entriesConverted cause s).mirror.copied,
          skipped := (entriesConverted cause s).mirror.skipped } := rfl
    _ = _ := by
      rw [hcopying, entriesConverted, hrest]
      rfl

/-- What conversion does once the entries are handed over: the journal emptied and TRACKING entered with catch-up-active set
(R23, R46). -/
theorem convert_eq {s u : State}
    (hu : s.journal.entries.foldl convertEntry (s.withMirror { s.mirror with copying := none }) = u) :
    convert s = { s with
      path := releasedPath s, journal := emptied s.journal, held := [], counters := u.counters,
      mirror := { u.mirror.setCatchup with state := .tracking } } := by
  have hframe := convertEntries_frame s.journal.entries (s.withMirror { s.mirror with copying := none })
  rw [hu] at hframe
  rw [convert, hu, emptyJournal_frame, hframe]
  rfl

/-- A session lost in STREAMING or CATCHUP: the blocks that conversion and the link unit leave (R23, R46, R129). -/
theorem sessionLost_capturing {cause : LossCause} {s : State}
    (h : s.mirror.state = .streaming ∨ s.mirror.state = .catchup) : sessionLost cause s = { s with
      path := releasedPath s, journal := emptied s.journal, held := [],
      counters := (entriesConverted cause s).counters,
      mirror := { (entriesConverted cause s).mirror.setCatchup with state := .tracking },
      alerts := { s.alerts with pending := s.alerts.pending ||| 1 },
      link := { s.link with state := .idle, retry := 0, cause := cause, ackTimer := none, holdTimer := none,
                            relinkTimer := some (param .relinkInterval s) } } := by
  have hlost : sessionLost cause s = (convert (linkLost cause s)).withLink
      { (convert (linkLost cause s)).link with
        relinkTimer := startedTimer .relinkInterval (convert (linkLost cause s)) } := by
    rcases h with h | h <;> simp only [sessionLost, h]
  have hconvert := convert_eq (s := linkLost cause s) (u := entriesConverted cause s) rfl
  rw [hlost, hconvert]
  generalize entriesConverted cause s = u
  rfl

/-- A session lost in STREAMING or CATCHUP is converted (R23, R29, R46, R129). -/
theorem sessionLost_converted {cause : LossCause} {s : State}
    (h : s.mirror.state = .streaming ∨ s.mirror.state = .catchup) : SessionConverted cause s (sessionLost cause s) := by
  have hcopied := convertEntries_total (total := fun s => s.mirror.copied) (fun s e => (convertEntry_totals s e).1)
    s.journal.entries (s := conversionStart cause s)
  have hskipped := convertEntries_total (total := fun s => s.mirror.skipped) (fun s e => (convertEntry_totals s e).2)
    s.journal.entries (s := conversionStart cause s)
  have hmarks := convertEntries_marks s.journal.entries (conversionStart cause s)
  have horder := convertEntries_pairwise s.journal.entries (conversionStart cause s)
  have hcounters := convertEntries_counters s.journal.entries (conversionStart cause s)
  rw [sessionLost_capturing h]
  exact ⟨rfl, entriesConverted_mirror cause s, hcopied, hskipped, hmarks, horder, hcounters⟩

/-- A session lost in UP converts the journal or ends the drain (R46, R52, R129). -/
theorem sessionLost_over (cause : LossCause) (s : State) : SessionOver cause s (sessionLost cause s) :=
  ⟨sessionLost_converted, sessionLost_draining cause s⟩

/-! ### Losses in UP -/

/-- What a lost session leaves does not tell where the send point stood, or the ACK timer and the retry counter (R23, R129). -/
theorem sessionOver_of_resent {cause : LossCause} {s t : State} {point retry : Nat} {timer : Timer}
    (h : SessionOver cause { s with
      journal := { s.journal with sendPoint := point },
      link := { s.link with ackTimer := timer, retry := retry } } t) : SessionOver cause s t :=
  h

/-- Settles O26: each loss in UP is one of the session, whatever the rewind and the retry counter before it. -/
theorem sessionLossConvertsOrEndsTheDrain : Obligations.SessionLossConvertsOrEndsTheDrain := by
  intro s hp hr hup _
  have htakes : TakesAck s.link.session s := ⟨hp, hr, hup, rfl⟩
  refine ⟨fun reason bs hbs => ?_, fun htimer => ?_, fun htimer hretry => ?_, fun n bs c hrange hc => ?_,
    fun n bs hbs hn hretry => ?_⟩
  · have htaken := stateVerdict_primary_up (f := { session := s.link.session, body := .bye reason }) hr hup rfl
      (.inl ⟨reason, rfl⟩)
    refine ⟨sessionLost (.peerBye reason) s, ?_, sessionLost_over _ s⟩
    rw [exec_byeTaken _ _ _ hp hr, takeFrame_taken _ hbs htaken, peerLeft, hup]
  · refine ⟨sessionLost .holdStuck s, ?_, sessionLost_over _ s⟩
    rw [exec_holdTimerExpiry hp htimer, holdExpired, hup]
  · have hstep := exec_ackTimerExpiry hp htimer hup
    rw [ackExpired_eq, checkRetry_exhausted hretry] at hstep
    exact ⟨_, hstep, sessionOver_of_resent (sessionLost_over _ _)⟩
  · refine ⟨protocolLoss s, ?_, sessionLost_over _ _⟩
    rcases hc with ⟨rfl, hbs⟩ | ⟨rfl, hbs⟩
    · rw [exec_ackTaken htakes hbs, ackArrived_outOfRange hrange]
    · rw [exec_nakTaken htakes hbs, nakArrived_outOfRange hrange]
  · have hd : (n - s.journal.ackBase).toNat = 0 := by simp [hn]
    have hstep := exec_nakTaken htakes hbs
    rw [nakArrived_first hd, checkRetry_exhausted hretry, rewindTo_frame] at hstep
    exact ⟨_, hstep, sessionOver_of_resent (sessionLost_over _ _)⟩

end Sys2Proof.Proofs
end

section
/-! PROOFS. The receiver: what a character does in each frame state, when the bytes collected end a frame, and what becomes of
a frame that is abandoned (R139 to R143). -/
namespace Sys2Proof.Proofs

open Sys2Proof.Machine Sys2Proof.Safety

/-! ### Lines and counters -/

/-- A count changes no line. -/
theorem lineOf_countedUp (l : LineId) (c : Counter) (s : State) : lineOf l (countedUp c s) = lineOf l s := by
  cases l <;> rfl

/-- A count and a change of a line can be taken in either order. -/
theorem countedUp_withLine (l : LineId) (c : Counter) (x : Line) (s : State) :
    countedUp c (withLine l x s) = withLine l x (countedUp c s) := by
  cases l <;> rfl

/-! ### Frames abandoned and frames ended -/

/-- The count of an abandoned frame, if one is under collection (R143). -/
def abandonCounted (l : LineId) (underCollection : Bool) (s : State) : State :=
  if underCollection then countedUp (.line l .abandoned) s else s

/-- The count of an abandoned frame and a change of a line can be taken in either order. -/
theorem abandonCounted_withLine (k l : LineId) (b : Bool) (x : Line) (s : State) :
    abandonCounted k b (withLine l x s) = withLine l x (abandonCounted k b s) := by
  cases b with
  | true => exact countedUp_withLine l _ x s
  | false => rfl

/-- The receiver goes to HUNT, and a frame under collection is counted as abandoned (R140, R143). -/
theorem abandonFrame_eq (l : LineId) (s : State) : abandonFrame l s =
    withLine l { lineOf l s with collected := none } (abandonCounted l (lineOf l s).collected.isSome s) :=
  abandonCounted_withLine l l _ _ s

/-- Where a frame ends, on either line by its own header length and longest body (R141). -/
theorem frameEnd_eq (l : LineId) (bs : List Byte) : frameEnd l bs =
    if bs.length < headerLength l then none
    else if bodyMax l < bodyLength l bs then some (.oversize bs)
    else if headerLength l + bodyLength l bs + 2 ≤ bs.length then some (.frame bs) else none := by
  cases l with
  | link => simp only [frameEnd, ofBE_pair, headerLength, bodyMax, bodyLength, Nat.add_right_comm 6]
  | service => simp only [frameEnd, headerLength, bodyMax, bodyLength, Nat.add_right_comm 2]

/-- Bytes that are not yet a whole frame end none (R141). -/
theorem frameEnd_open {l : LineId} {bs : List Byte} (h : frameOpen l bs) : frameEnd l bs = none := by
  rw [frameEnd_eq]
  rcases h with hheader | ⟨hbody, hlen⟩
  · exact if_pos hheader
  · rw [if_neg (Nat.not_lt.2 hbody), if_neg (Nat.not_le.2 hlen), ite_self]

/-- Bytes that are a complete frame deliver it (R141). -/
theorem frameEnd_complete {l : LineId} {bs : List Byte} (h : frameComplete l bs) : frameEnd l bs = some (.frame bs) := by
  obtain ⟨hbody, hlen⟩ := h
  rw [frameEnd_eq, if_neg (by omega), if_neg (Nat.not_lt.2 hbody), if_pos (Nat.le_of_eq hlen.symm)]

/-- A header whose body is too long is delivered as oversize (R141). -/
theorem frameEnd_oversize {l : LineId} {bs : List Byte} (h : headerOversize l bs) :
    frameEnd l bs = some (.oversize bs) := by
  obtain ⟨hlen, hbody⟩ := h
  rw [frameEnd_eq, if_neg (by omega), if_pos hbody]

/-! ### A character received -/

section
variable {l : LineId} {c : Character} {s : State}

/-- A receiver that waits for a high line takes no character (R139). -/
theorem receive_waiting (h : (lineOf l s).waitHigh = true) : receive l c s = s := by
  simp [receive, h]

/-- A framing error abandons the frame, and the receiver waits for a high line (R139, R140). -/
theorem receive_framing (hw : (lineOf l s).waitHigh = false) (h : c.stop = false) :
    receive l c s = withLine l { lineOf l s with collected := none, waitHigh := true }
      (abandonCounted l (lineOf l s).collected.isSome
        (countedUp (.line l .framing) (countedUp (.line l .characters) s))) := by
  simp [receive, hw, judge, h, bump_eq, abandonFrame_eq, lineOf_countedUp]

/-- A parity error abandons the frame (R139, R140). -/
theorem receive_parity (hw : (lineOf l s).waitHigh = false) (hstop : c.stop = true)
    (h : Character.parityOk c = false) : receive l c s = withLine l { lineOf l s with collected := none }
      (abandonCounted l (lineOf l s).collected.isSome
        (countedUp (.line l .parity) (countedUp (.line l .characters) s))) := by
  simp [receive, hw, judge, hstop, h, bump_eq, abandonFrame_eq, lineOf_countedUp]

/-- A good character is counted and handled by the frame state (R139, R140). -/
theorem receive_good (hw : (lineOf l s).waitHigh = false) (h : goodChar c) :
    receive l c s = goodCharacter l c (countedUp (.line l .characters) s) := by
  obtain ⟨hstop, hparity⟩ := h
  simp [receive, hw, judge, hstop, hparity, bump_eq]

/-- A good marked character abandons a frame under collection and starts one (R140). -/
theorem goodCharacter_marked (h : c.mark = true) :
    goodCharacter l c s = withLine l { lineOf l s with collected := some [c.data] }
      (abandonCounted l (lineOf l s).collected.isSome s) := by
  simp [goodCharacter, h, abandonFrame_eq]

/-- A good unmarked character in HUNT is passed over (R140). -/
theorem goodCharacter_hunt (h : c.mark = false) (hc : (lineOf l s).collected = none) : goodCharacter l c s = s := by
  simp [goodCharacter, h, hc]

/-- A good unmarked character in IN_FRAME joins the frame (R140). -/
theorem goodCharacter_inFrame {bs : List Byte} (h : c.mark = false) (hc : (lineOf l s).collected = some bs) :
    goodCharacter l c s = appendByte l bs c.data s := by
  simp [goodCharacter, h, hc]

/-- A byte that leaves the frame open is kept (R140, R141). -/
theorem appendByte_open {bs : List Byte} {b : Byte} (h : frameEnd l (bs ++ [b]) = none) :
    appendByte l bs b s = withLine l { lineOf l s with collected := some (bs ++ [b]) } s := by
  simp [appendByte, h]

/-- A byte that ends the frame delivers it behind what still waits for the line's owner (R141 to R143). -/
theorem appendByte_delivered {bs : List Byte} {b : Byte} {d : Delivery} (h : frameEnd l (bs ++ [b]) = some d) :
    appendByte l bs b s = withLine l { lineOf l s with collected := none, delivered := (lineOf l s).delivered ++ [d] }
      (countedUp (.line l .delivered) s) := by
  simp [appendByte, h, bump_eq, countedUp_withLine]

/-- In the running part CHARACTER_RECEIVED is the receiver's taking of the character. -/
theorem exec_characterReceived (h : s.phase = .running) : exec (.characterReceived l c) s = .next (receive l c s) :=
  live_running h

end

/-- Settles O35: by the receiver's wait, the judgement of the character and, for a good one, the frame state. -/
theorem charactersMakeFrames : Obligations.CharactersMakeFrames := by
  intro s l c hp
  rw [exec_characterReceived hp]
  refine ⟨fun hw => congrArg _ (receive_waiting hw), fun hw => ⟨fun hstop => ?_, fun hstop hparity => ?_,
    fun hgood hmark => ?_, fun hgood hmark hhunt => ?_, fun bs hgood hmark hbs => ?_⟩⟩
  · rw [receive_framing hw hstop, abandonCounted]
  · rw [receive_parity hw hstop hparity, abandonCounted]
  · rw [receive_good hw hgood, goodCharacter_marked hmark, lineOf_countedUp, abandonCounted]
  · rw [receive_good hw hgood, goodCharacter_hunt hmark (by rwa [lineOf_countedUp])]
  · rw [receive_good hw hgood, goodCharacter_inFrame hmark ((congrArg _ (lineOf_countedUp ..)).trans hbs)]
    refine ⟨fun hopen => ?_, fun hcomplete => ?_, fun hoversize => ?_⟩
    · rw [appendByte_open (frameEnd_open hopen), lineOf_countedUp]
    · rw [appendByte_delivered (frameEnd_complete hcomplete), lineOf_countedUp]
    · rw [appendByte_delivered (frameEnd_oversize hoversize), lineOf_countedUp]

end Sys2Proof.Proofs
end

section
/-! PROOFS. SOFT_RESET: how the part's own side is stopped in each role and state, what the link unit and the receivers come
to, and when its answer is sent (R145, R202, R203). -/
namespace Sys2Proof.Proofs

open Sys2Proof.Machine Sys2Proof.Safety

section
variable {s : State}

/-! ### The own side stopped -/

/-- A primary is OFF exactly when its mirror state is (R28). -/
theorem ownStateOff_primary (hr : s.role = .primary) : ownStateOff s = true ↔ s.mirror.state = .off := by
  simp [ownStateOff, hr]

/-- A replica is OFF exactly when its unit is (R147). -/
theorem ownStateOff_replica (hr : s.role = .replica) : ownStateOff s = true ↔ s.replica.state = .off := by
  simp [ownStateOff, hr]

/-- In OFF a soft reset finds nothing to stop (R202). -/
theorem softStopped_off (h : ownStateOff s = true) : softStopped s = s := by
  rw [softStopped, if_pos h]

/-- A primary outside OFF is stopped as STOP NOW stops it (R48, R202). -/
theorem softStopped_primary (hr : s.role = .primary) (hm : s.mirror.state ≠ .off) : softStopped s = stoppedNow s := by
  rw [softStopped, if_neg (mt (ownStateOff_primary hr).1 hm), if_pos hr]

/-- A replica in SESSION leaves it with BYE(STOPPED) (R148, R202). -/
theorem softStopped_session (hr : s.role = .replica) (hs : s.replica.state = .session) :
    softStopped s = sessionLeft (some .stopped) .off s := by
  rw [softStopped, if_neg (mt (ownStateOff_replica hr).1 (by simp [hs])), if_neg (by simp [hr]), if_pos hs]

/-- A replica in LISTENING goes to OFF alone (R148, R202). -/
theorem softStopped_listening (hr : s.role = .replica) (hs : s.replica.state = .listening) :
    softStopped s = { s with replica := { s.replica with state := .off } } := by
  rw [softStopped, if_neg (mt (ownStateOff_replica hr).1 (by simp [hs])), if_neg (by simp [hr]), if_neg (by simp [hs])]

/-- The model's stop is that of the statements, by role and state (R202). -/
theorem softStop_eq (s : State) : softStop s = softStopped s := by
  unfold softStop
  split
  · next hoff => exact (softStopped_off hoff).symm
  · next hon =>
    cases hr : s.role with
    | primary => rw [softStopped_primary hr (mt (ownStateOff_primary hr).2 hon)]; exact stopPrimary_eq s
    | replica =>
      cases hs : s.replica.state with
      | off => exact absurd ((ownStateOff_replica hr).2 hs) hon
      | listening => rw [softStopped_listening hr hs]; simp only [stopReplica, hs]; rfl
      | session => rw [softStopped_session hr hs]; simp only [stopReplica, hs]; rfl

/-- The parts of a state that a stop of the own side leaves alone. -/
theorem softStopped_rest (s : State) : (softStopped s).linkLine = s.linkLine ∧ (softStopped s).svcLine = s.svcLine
    ∧ (softStopped s).port = s.port ∧ (softStopped s).replica.applying = s.replica.applying := by
  unfold softStopped
  split
  · exact ⟨rfl, rfl, rfl, rfl⟩
  · split
    · exact ⟨rfl, rfl, rfl, rfl⟩
    · split <;> exact ⟨rfl, rfl, rfl, rfl⟩

/-! ### The whole soft reset -/

/-- Both receivers go to HUNT, each counting the frame that it abandons (R143, R202). -/
theorem abandonFrame_both (s : State) : abandonFrame .service (abandonFrame .link s) =
    { abandonCounted .service s.svcLine.collected.isSome (abandonCounted .link s.linkLine.collected.isSome s) with
      linkLine := { s.linkLine with collected := none }, svcLine := { s.svcLine with collected := none } } := by
  have hsvc : lineOf .service (abandonFrame .link s) = s.svcLine := by
    rw [abandonFrame_eq]
    cases (lineOf .link s).collected.isSome <;> rfl
  rw [abandonFrame_eq .service, hsvc, abandonFrame_eq .link, abandonCounted_withLine]
  rfl

/-- The effects at the take: those of the statements, with the slot held (R145, R202). -/
theorem beginSoftReset_eq (s : State) :
    beginSoftReset s = { softReset s with port := { s.port with slot := some .softReset } } := by
  obtain ⟨hlink, hsvc, hport, -⟩ := softStopped_rest s
  rw [beginSoftReset, softReset, softStop_eq, ← hlink, ← hsvc, ← hport, abandonFrame_both,
    State.withLink_linkLine, State.withLink_svcLine]
  generalize softStopped s = t
  cases t.linkLine.collected.isSome <;> cases t.svcLine.collected.isSome <;> rfl

/-- A soft reset leaves the apply write in flight and the service port as they are, the command slot aside (R202, R203). -/
theorem softReset_rest (s : State) : (softReset s).port = s.port
    ∧ (softReset s).replica.applying = s.replica.applying := by
  obtain ⟨-, -, hport, happly⟩ := softStopped_rest s
  rw [← hport, ← happly, softReset]
  generalize softStopped s = t
  cases s.linkLine.collected.isSome <;> cases s.svcLine.collected.isSome <;> exact ⟨rfl, rfl⟩

/-- A soft reset is complete at once with no apply write in flight (R203). -/
theorem completeSoftReset_done (h : s.replica.applying = none) :
    completeSoftReset s = { s with port := { slot := none, responses := s.port.responses ++
      [{ code := 149, status := .ok, body := [], divisorDue := false }] } } := by
  rw [completeSoftReset, h]
  rfl

/-- A soft reset waits for an apply write in flight (R203). -/
theorem completeSoftReset_waits (h : s.replica.applying ≠ none) : completeSoftReset s = s := by
  simp [completeSoftReset, h]

/-- SOFT_RESET: answered at its take with no apply write in flight, and otherwise holding the slot (R202, R203). -/
theorem doSoftReset_eq (hslot : s.port.slot = none) : doSoftReset s =
    if s.replica.applying = none then answered 149 .ok [] (softReset s)
    else { softReset s with port := { s.port with slot := some .softReset } } := by
  obtain ⟨hport, happly⟩ := softReset_rest s
  rw [doSoftReset, beginSoftReset_eq]
  by_cases h : s.replica.applying = none
  · rw [if_pos h, completeSoftReset_done (by exact happly.trans h)]
    simp only [answered, hport, hslot]
  · rw [if_neg h]
    exact completeSoftReset_waits fun hnone => h (happly.symm.trans hnone)

/-- In the running part SOFT_RESET_COMPLETE looks whether a soft reset that holds the slot is complete (R203). -/
theorem exec_softResetComplete (hp : s.phase = .running) (hslot : s.port.slot = some .softReset) :
    exec .softResetComplete s = .next (completeSoftReset s) := by
  simp only [exec, execSoftResetComplete, live_running hp, hslot]

end

/-- Settles O48: the stop by role and state, the effects at the take, and the completion with or without an apply write in
flight. -/
theorem softResetStopsAndCompletes : Obligations.SoftResetStopsAndCompletes := by
  refine ⟨fun s d hs hd => ⟨softStopped_off, softStopped_primary, softStopped_session, softStopped_listening, ?_⟩,
    fun s hp hslot => ⟨fun h => ?_, fun h => ?_⟩⟩
  · have ⟨_, hslot, _⟩ := hs
    exact exec_carriedOut hs hd (doSoftReset_eq hslot) rfl
  · rw [exec_softResetComplete hp hslot, completeSoftReset_done h]
  · rw [exec_softResetComplete hp hslot, completeSoftReset_waits (Option.isSome_iff_ne_none.1 h)]

end Sys2Proof.Proofs
end

section
/-! PROOFS. The transmitter: the characters in which a frame is sent, the pause at a character boundary, and what the end of each
kind of frame starts (R114, R121, R123, R134, R136 to R138). -/
namespace Sys2Proof.Proofs

open Sys2Proof.Machine Sys2Proof.Safety

/-! ### The characters of a frame -/

/-- A frame is sent in as many characters as it has bytes (R137). -/
theorem length_sentCharacters (bs : List Byte) : (sentCharacters bs).length = bs.length := by
  rw [← List.length_map (f := Character.data), sentCharacters_data]

/-- Each byte is sent in its own character, byte 0 in a marked one and every later byte in an unmarked one (R137). -/
theorem getElem?_sentCharacters {bs : List Byte} {k : Nat} {b : Byte} (h : bs[k]? = some b) :
    (sentCharacters bs)[k]? = some (sentCharacter (decide (k = 0)) b) := by
  cases bs with
  | nil => simp at h
  | cons a bs =>
    cases k with
    | zero =>
      obtain rfl : a = b := by simpa using h
      rfl
    | succ k =>
      rw [List.getElem?_cons_succ] at h
      simp [sentCharacters, h]

/-- The highs among the data bits and the mark bit (R134). -/
theorem highs_sentCharacter (mark : Bool) (b : Byte) : Character.highs (sentCharacter mark b) =
    (List.range 8).countP (fun i => b.getLsbD i) + mark.toNat := rfl

/-- The parity bit is high exactly when the data and mark bits hold an odd number of highs (R134). -/
theorem parity_sentCharacter (mark : Bool) (b : Byte) :
    (sentCharacter mark b).parity = decide (Character.highs (sentCharacter mark b) % 2 = 1) := rfl

/-- With its parity bit a sent character holds an even number of highs and its stop bit is high: it is good (R134, R139). -/
theorem goodChar_sentCharacter (mark : Bool) (b : Byte) : goodChar (sentCharacter mark b) := by
  refine ⟨rfl, ?_⟩
  rw [Character.parityOk, parity_sentCharacter, beq_iff_eq]
  by_cases h : Character.highs (sentCharacter mark b) % 2 = 1
  · simp only [h, decide_true, Bool.toNat_true]; omega
  · simp only [h, decide_false, Bool.toNat_false]; omega

/-- The characters on the line are the first ones of the frame (R137). -/
theorem getElem?_sent {t : Tx} {k : Nat} {c : Character} (h : t.characters[k]? = some c) :
    k < t.begun ↔ t.sent[k]? = some c := by
  rw [Tx.sent, List.getElem?_take]
  by_cases hk : k < t.begun <;> simp [hk, h]

/-! ### Character boundaries and ends of transmission -/

/-- More of a frame is to send while fewer characters have begun than it has bytes (R138). -/
theorem moreToSend_iff (t : Tx) : t.moreToSend = true ↔ t.begun < (txBytes t.content).length := by
  rw [Tx.moreToSend, Tx.characters, length_sentCharacters, decide_eq_true_iff]

/-- HOLD keeps off the transmitter of a primary while it is asserted (R138). -/
theorem heldOff_iff (s : State) : heldOff s = true ↔ s.role = .primary ∧ s.holdIn = true := by
  simp [heldOff]

/-- At a character boundary with more to send the transmitter pauses where HOLD keeps it off, and otherwise begins the next
character (R138). -/
theorem atBoundary_more {t : Tx} (hpaused : t.paused = false) (hmore : t.begun < (txBytes t.content).length)
    (held : Bool) :
    t.atBoundary held = if held then { t with paused := true } else { t with begun := t.begun + 1 } := by
  simp [Tx.atBoundary, hpaused, (moreToSend_iff t).2 hmore]

section
variable {s : State} {t : Tx} {l : LineId}

/-- A transmission that is paused or has characters to begin does not end (R121, R138). -/
theorem endTx_unfinished (ht : (lineOf l s).tx = some t)
    (h : t.paused = true ∨ t.begun < (txBytes t.content).length) : endTx l s = s := by
  have hstays : (t.paused || t.moreToSend) = true := by
    rw [Bool.or_eq_true, moreToSend_iff]
    exact h
  simp only [endTx, ht, hstays, if_true]

/-- A transmission whose characters have all begun ends, and the transmitter holds no frame (R137). -/
theorem endTx_finished (ht : (lineOf l s).tx = some t) (hpaused : t.paused = false)
    (h : (txBytes t.content).length ≤ t.begun) :
    endTx l s = frameSent t.content (withLine l { lineOf l s with tx := none } s) := by
  have hends : ¬(t.paused || t.moreToSend) = true := by
    rw [Bool.or_eq_true, moreToSend_iff, hpaused]
    exact not_or.2 ⟨Bool.false_ne_true, Nat.not_lt.2 h⟩
  simp only [endTx, ht, if_neg hends]

/-- In the running part TRANSMISSION_END is the end of the line's transmission. -/
theorem exec_transmissionEnd (h : s.phase = .running) : exec (.transmissionEnd l) s = .next (endTx l s) :=
  live_running h

end

/-! ### What the end of a frame starts -/

/-- The end of a frame that is neither a HELLO nor sequenced starts nothing (R114, R123). -/
theorem linkSent_plain {f : LinkFrame} (hhello : isHello f = false) (hseq : ∀ n b, f.body ≠ .seq n b) (s : State) :
    linkSent f s = s := by
  unfold linkSent
  cases hb : f.body with
  | hello h => simp [isHello, hb] at hhello
  | seq n b => exact absurd hb (hseq n b)
  | welcome _ => rfl
  | bye _ => rfl
  | ack _ => rfl
  | nak _ => rfl

/-- The end of a HELLO of the current attempt is counted, and starts the HELLO timer in HELLO_WAIT (R114, R115). -/
theorem linkSent_hello {f : LinkFrame} {h : HelloBody} {s : State} (hb : f.body = .hello h)
    (hstate : s.link.state ≠ .idle) (hn : f.session = s.link.session) :
    linkSent f s = { s with link := { s.link with
      helloSends := s.link.helloSends + 1,
      helloTimer := if s.link.state = .helloWait then some (param .helloTimeout s) else s.link.helloTimer } } := by
  simp only [linkSent, hb, helloSent, if_pos (And.intro hn hstate)]
  rfl

/-- The end of a HELLO in IDLE or of another session does nothing (R114). -/
theorem linkSent_hello_stale {f : LinkFrame} {h : HelloBody} {s : State} (hb : f.body = .hello h)
    (hstale : s.link.state = .idle ∨ f.session ≠ s.link.session) : linkSent f s = s := by
  have hother : ¬(f.session = s.link.session ∧ s.link.state ≠ .idle) := fun ⟨hn, hstate⟩ =>
    hstale.elim hstate (absurd hn)
  simp only [linkSent, hb, helloSent, if_neg hother]

/-- The end of a sequenced frame starts a stopped ACK timer in UP while SENT entries remain and HOLD is withdrawn (R123). -/
theorem linkSent_seq {f : LinkFrame} {n : SeqNum} {b : SeqBody} (hb : f.body = .seq n b) (s : State) :
    linkSent f s = { s with link := { s.link with
      ackTimer := if s.link.state = .up ∧ 0 < s.journal.sentCount ∧ s.holdIn = false ∧ s.link.ackTimer = none
        then some (param .ackTimeout s) else s.link.ackTimer } } := by
  simp only [linkSent, hb, sequencedSent, sentRemain, decide_eq_true_eq]
  split <;> rfl

/-- Settles O36: the wait for a high line, the characters of a frame, the character boundary, and the end of a transmission by
what was sent. -/
theorem transmissionPausesAndEnds : Obligations.TransmissionPausesAndEnds := by
  refine ⟨fun s l hp => live_running hp, fun t k b hk => ?_, fun t => length_sentCharacters _,
    fun s t hp ht hpaused hmore => ?_, fun s t l hp ht hstays => ?_, fun s t f hp ht hpaused hf hdone => ?_,
    fun s t r hp ht hpaused hr hdone => ?_⟩
  · have hc : t.characters[k]? = some (sentCharacter (decide (k = 0)) b) := getElem?_sentCharacters hk
    refine ⟨_, hc, rfl, rfl, rfl, ?_, rfl, goodChar_sentCharacter _ b, getElem?_sent hc⟩
    rw [parity_sentCharacter, highs_sentCharacter, decide_eq_true_iff]
    by_cases h0 : k = 0 <;> simp [h0]
  · have hstep : exec .characterBoundary s = .next (s.withLinkLine
        { s.linkLine with tx := s.linkLine.tx.map (Tx.atBoundary (heldOff s)) }) := by
      simp only [exec, execCharacterBoundary, live_running hp]
    rw [hstep, ht, Option.map_some, atBoundary_more hpaused hmore]
    simp only [heldOff_iff]
    rfl
  · rw [exec_transmissionEnd hp, endTx_unfinished ht hstays]
  · have hend : exec (.transmissionEnd .link) s =
        .next (linkSent f { s with linkLine := { s.linkLine with tx := none } }) := by
      rw [exec_transmissionEnd hp, endTx_finished (l := .link) ht hpaused (by rwa [hf]), hf]
      rfl
    rw [hend]
    refine ⟨fun hhello hseq => ?_, fun h hb => ⟨fun hstate hn => ?_, fun hstale => ?_⟩, fun n b hb => ?_⟩
    · rw [linkSent_plain hhello hseq]
    · exact congrArg _ (linkSent_hello hb hstate hn)
    · exact congrArg _ (linkSent_hello_stale hb hstale)
    · exact congrArg _ (linkSent_seq hb _)
  · rw [exec_transmissionEnd hp, endTx_finished (l := .service) ht hpaused (by rwa [hr]), hr]
    rfl

end Sys2Proof.Proofs
end

section
/-! PROOFS. WRITE_PARAM: its checks in their order, and what a divisor's new value does to its line (R136, R193, R194). -/
namespace Sys2Proof.Proofs

open Sys2Proof.Machine Sys2Proof.Safety

/-! ### The checks -/

section
variable {p : Param} {v : BitVec 16} {s : State}

/-- A number above 11 is out of range (R193). -/
theorem doWriteParam_unknown {n : Byte} (v : BitVec 16) (s : State) (h : 12 ≤ n.toNat) :
    doWriteParam n v s = answered 131 .range [] s := by
  simp only [doWriteParam, paramOfNumber_none h]
  rfl

/-- A value outside the parameter's range (R193). -/
theorem doWriteParam_range (s : State) (h : v.toNat < paramMin p ∨ paramMax p < v.toNat) :
    doWriteParam (BitVec.ofNat 8 (paramNumber p).val) v s = answered 131 .range [] s := by
  simp only [doWriteParam, paramOfNumber_paramNumber, if_pos h]
  rfl

/-- A parameter that is fixed outside OFF (R194). -/
theorem doWriteParam_state (hmin : paramMin p ≤ v.toNat) (hmax : v.toNat ≤ paramMax p)
    (hoff : paramOffOnly p = true) (hon : ownStateOff s = false) :
    doWriteParam (BitVec.ofNat 8 (paramNumber p).val) v s = answered 131 .state [] s := by
  have hrange : ¬(v.toNat < paramMin p ∨ paramMax p < v.toNat) := by omega
  simp only [doWriteParam, paramOfNumber_paramNumber, if_neg hrange, hoff, hon]
  rfl

/-- A value that passes the checks is stored and answered (R193). -/
theorem doWriteParam_stored (hmin : paramMin p ≤ v.toNat) (hmax : v.toNat ≤ paramMax p)
    (hallowed : paramOffOnly p = false ∨ ownStateOff s = true) :
    doWriteParam (BitVec.ofNat 8 (paramNumber p).val) v s =
      pushResponse (writeResponse p v.toNat) (pendDivisor p v.toNat (setParam p v.toNat s)) := by
  have hrange : ¬(v.toNat < paramMin p ∨ paramMax p < v.toNat) := by omega
  have hpermitted : ¬(paramOffOnly p && !ownStateOff s) = true := by
    rcases hallowed with h | h <;> simp [h]
  simp only [doWriteParam, paramOfNumber_paramNumber, if_neg hrange, if_neg hpermitted]

end

/-! ### The effect -/

/-- The body of the answer: the parameter's number, and its value in the fewest whole bytes of its range (R188, R193). -/
theorem paramBody_eq (p : Param) (v : Nat) :
    paramBody p v = BitVec.ofNat 8 (paramNumber p).val :: beBytes (if paramMax p < 256 then 1 else 2) v := by
  rw [paramBody, beBytes_one]
  rfl

/-- Only a service divisor's answer makes a divisor due (R136). -/
theorem writeResponse_plain {p : Param} (h : p ≠ .serviceDivisor) (v : Nat) :
    writeResponse p v = { code := 131, status := .ok, body := paramBody p v, divisorDue := false } := by
  rw [writeResponse, beq_eq_false_iff_ne.2 h]

/-- A parameter that is no divisor has no effect on a line (R136). -/
theorem pendDivisor_other {p : Param} (hl : p ≠ .linkDivisor) (hs : p ≠ .serviceDivisor) (v : Nat) (s : State) :
    pendDivisor p v s = s := by
  cases p with
  | linkDivisor => exact absurd rfl hl
  | serviceDivisor => exact absurd rfl hs
  | _ => rfl

/-- A service divisor becomes pending and is not yet due; with no response waiting or in transmission none is superseded
(R136, R194). -/
theorem pendDivisor_service {s : State} (hresponses : s.port.responses = []) (htx : s.svcLine.tx = none) (v : Nat) :
    pendDivisor .serviceDivisor v s =
      { s with svcLine := { s.svcLine with txPending := some v, rxPending := some v, due := false } } := by
  have hsupersede : supersedeDivisor s = s := by
    simp only [supersedeDivisor, hresponses, htx, List.map_nil, Option.map_none]
    rw [← hresponses, ← htx]
    rfl
  simp only [pendDivisor, hsupersede]
  rfl

/-- The first response of an empty list (R189). -/
theorem pushResponse_empty {s : State} (h : s.port.responses = []) (r : SvcResponse) :
    pushResponse r s = { s with port := { s.port with responses := [r] } } := by
  rw [pushResponse_frame, h]
  rfl

/-- Settles O41: the checks in their order, and the effect by parameter. -/
theorem writeParamStoresInRange : Obligations.WriteParamStoresInRange := by
  intro s p v d hs
  refine ⟨fun n hd hn => exec_carriedOut hs hd (doWriteParam_unknown v s hn) rfl, fun hd =>
    ⟨fun hv => exec_carriedOut hs hd (doWriteParam_range s hv) rfl,
      fun hmin hmax hoff hon => exec_carriedOut hs hd (doWriteParam_state hmin hmax hoff hon) rfl,
      fun hmin hmax hallowed => ?_⟩⟩
  dsimp only
  rw [← paramBody_eq, exec_carriedOut hs hd (doWriteParam_stored hmin hmax hallowed) rfl]
  refine ⟨fun hl hsvc => ?_, fun hl => ?_, fun hsvc hresponses htx => ?_⟩
  · rw [writeResponse_plain hsvc, pendDivisor_other hl hsvc]
    rfl
  · subst hl
    rfl
  · subst hsvc
    rw [pendDivisor_service (by exact hresponses) (by exact htx), pushResponse_empty (by exact hresponses)]
    rfl

end Sys2Proof.Proofs
end

section
/-! PROOFS. What the replica apply unit does with a frame of its session by the frame's distance, with the oldest frame of its
queue, with a WELCOME that is pending and with its reply list (R152, R155 to R159, R161 to R167). -/
namespace Sys2Proof.Proofs

open Sys2Proof.Machine Sys2Proof.Safety

/-! ### Gaps noted -/

/-- The unit with NAK-outstanding and NAK due set, if NAK-outstanding was clear (R157, R158). -/
def gapMarked (r : Replica) : Replica :=
  if r.nakOutstanding then r else { r with nakOutstanding := true, nakDue := true }

/-- The unit after a gap: a NAK that is due with the queue empty is handed over (R157, R158, R164). -/
def gapSeen (r : Replica) : Replica :=
  if (gapMarked r).nakDue = true ∧ r.queue = [] then nakHanded (gapMarked r) else gapMarked r

/-- The first gap sets NAK-outstanding and NAK due (R157). -/
theorem gapMarked_first {r : Replica} (h : r.nakOutstanding = false) :
    gapMarked r = { r with nakOutstanding := true, nakDue := true } := by
  simp [gapMarked, h]

/-- A further gap sets nothing (R157). -/
theorem gapMarked_again {r : Replica} (h : r.nakOutstanding = true) : gapMarked r = r := by
  simp [gapMarked, h]

/-- A gap marked leaves the apply queue as it is. -/
@[simp] theorem gapMarked_queue (r : Replica) : (gapMarked r).queue = r.queue := by
  unfold gapMarked
  split <;> rfl

/-- A gap noted changes the replica apply unit alone (R157, R158, R164). -/
theorem noteGap_eq (s : State) : noteGap s = { s with replica := gapSeen s.replica } := by
  have hmarked : noteGap s = s.withReplica (if (gapMarked s.replica).nakDue && (gapMarked s.replica).queue.isEmpty
      then nakHanded (gapMarked s.replica) else gapMarked s.replica) := rfl
  simp only [hmarked, gapMarked_queue, Bool.and_eq_true, List.isEmpty_iff, gapSeen]
  rfl

/-- A gap with an empty queue and a NAK due: the NAK is handed over (R164). -/
theorem gapSeen_handed {r : Replica} (hdue : (gapMarked r).nakDue = true) (hq : r.queue = []) :
    gapSeen r = nakHanded (gapMarked r) :=
  if_pos ⟨hdue, hq⟩

/-- A gap with frames waiting or no NAK due: it is marked and no more (R164). -/
theorem gapSeen_waits {r : Replica} (h : (gapMarked r).nakDue = false ∨ r.queue ≠ []) : gapSeen r = gapMarked r :=
  if_neg fun ⟨hdue, hq⟩ => h.elim (fun hnone => Bool.false_ne_true (hnone.symm.trans hdue)) (fun hne => hne hq)

/-! ### Sequenced frames -/

/-- A replica in SESSION takes a sequenced frame of its session (R150). -/
theorem exec_sequencedFrameTaken {s : State} {session : Byte} {n : SeqNum} {b : SeqBody} {bs : List Byte}
    (h : TakesInSession session s) (hbs : parseLink bs = .ok { session := session, body := .seq n b }) :
    exec (.sequencedFrameTaken session n b) (handed .link (.frame bs) s) = .next (sequencedArrived n b s) := by
  obtain ⟨hp, hr, hs, hsession⟩ := h
  have htaken : stateVerdict { session := session, body := .seq n b } s = none :=
    (stateVerdict_replica_session hr hs (.inl ⟨n, b, rfl⟩)).trans (if_pos hsession)
  rw [exec, execSequencedFrameTaken, live_running (by simpa using hp), takeFrame_taken _ hbs htaken]

/-- A frame with the expected sequence is in order (R155). -/
theorem sequencedArrived_expected {n : SeqNum} {s : State} (h : n = s.replica.expected) (b : SeqBody) :
    sequencedArrived n b s = inOrder n b s :=
  if_pos (by rw [h, BitVec.sub_self]; rfl)

/-- A frame ahead of the expected sequence is counted, and a gap seen (R157). -/
theorem sequencedArrived_ahead {n : SeqNum} {s : State} (hlo : 1 ≤ (n - s.replica.expected).toNat)
    (hhi : (n - s.replica.expected).toNat ≤ 32767) (b : SeqBody) :
    sequencedArrived n b s = countedUp (.discarded .ahead) { s with replica := gapSeen s.replica } := by
  have harrived : sequencedArrived n b s = noteGap (Machine.discard .ahead s) :=
    (if_neg (Nat.ne_of_gt hlo)).trans (if_pos hhi)
  rw [harrived, noteGap_eq]
  rfl

/-- A frame behind the expected sequence is counted, and answered with an ACK (R159). -/
theorem sequencedArrived_behind {n : SeqNum} {s : State} (h : 32767 < (n - s.replica.expected).toNat) (b : SeqBody) :
    sequencedArrived n b s = countedUp (.discarded .duplicate) { s with replica := ackHanded s.replica } :=
  (if_neg (Nat.ne_zero_of_lt h)).trans (if_neg (Nat.not_le.2 h))

/-- The region check passes a frame without a page, and one whose page lies in a MIRROR region (R156). -/
theorem inOrder_passed {b : SeqBody} {region : Option (Fin 32)} {s : State} (n : SeqNum)
    (h : (framePage b = none ∧ region = none)
      ∨ ∃ p, framePage b = some p ∧ mirrorRegionAt s.regions p = region ∧ region.isSome = true) :
    inOrder n b s = enqueue n b region s := by
  rcases h with ⟨hp, rfl⟩ | ⟨p, hp, hregion, hsome⟩
  · simp only [inOrder, hp]
  · obtain ⟨i, rfl⟩ := Option.isSome_iff_exists.1 hsome
    simp only [inOrder, hp, hregion]

/-- A frame whose page lies in no MIRROR region ends the session (R156). -/
theorem inOrder_outside {b : SeqBody} {p : Nat} {s : State} (n : SeqNum) (hp : framePage b = some p)
    (h : mirrorRegionAt s.regions p = none) :
    inOrder n b s = sessionLeft (some .protocol) .listening (countedUp (.discarded .region) s) := by
  simp only [inOrder, hp, h]
  rfl

/-- The unit with a frame at the new end of its apply queue (R155, R161). -/
def enqueued (n : SeqNum) (b : SeqBody) (region : Option (Fin 32)) (r : Replica) : Replica :=
  { r with
    queue := r.queue ++ [{ seq := n, body := b, region := region, started := false }], expected := r.expected + 1,
    nakOutstanding := false, nakDue := false, hold := holdLevel (r.queue.length + 1) r.hold }

/-- With a free place a frame joins the apply queue (R155). -/
theorem enqueue_room {s : State} (h : s.replica.queue.length < 16) (n : SeqNum) (b : SeqBody)
    (region : Option (Fin 32)) : enqueue n b region s = { s with replica := enqueued n b region s.replica } :=
  if_pos h

/-- Without a free place a frame is an overrun, and a gap seen (R158). -/
theorem enqueue_full {s : State} (h : 16 ≤ s.replica.queue.length) (n : SeqNum) (b : SeqBody)
    (region : Option (Fin 32)) :
    enqueue n b region s = countedUp (.discarded .overrun) { s with replica := gapSeen s.replica } := by
  have hfull : enqueue n b region s = noteGap (Machine.discard .overrun s) := if_neg (Nat.not_lt.2 h)
  rw [hfull, noteGap_eq]
  rfl

/-- At an overrun the frames of the full queue wait, and the gap is marked alone (R158, R164). -/
theorem gapSeen_full {r : Replica} (h : 16 ≤ r.queue.length) :
    gapSeen r = { r with nakOutstanding := true, nakDue := if r.nakOutstanding then r.nakDue else true } := by
  have hne : r.queue ≠ [] := by
    rintro hq
    simp [hq] at h
  rw [gapSeen_waits (.inr hne)]
  cases hout : r.nakOutstanding with
  | false => exact gapMarked_first hout
  | true => rw [gapMarked_again hout, if_pos rfl, ← hout]

/-- Settles O31: by the frame's distance, then by its page and the room in the queue, or by the gap already noted. -/
theorem sequencedFrameIsPlaced : Obligations.SequencedFrameIsPlaced := by
  intro s session n b region bs hs hbs
  rw [exec_sequencedFrameTaken hs hbs]
  refine ⟨fun hn hpage => ?_, fun p hn hp hregion => ?_, fun ⟨hlo, hhi⟩ => ?_, fun hbehind => ?_⟩
  · rw [sequencedArrived_expected hn, inOrder_passed n hpage]
    refine ⟨fun hroom => ?_, fun hfull => ?_⟩
    · rw [enqueue_room hroom, hn]
      rfl
    · rw [enqueue_full hfull, gapSeen_full hfull]
  · rw [sequencedArrived_expected hn, inOrder_outside n hp hregion]
  · rw [sequencedArrived_ahead hlo hhi]
    refine ⟨fun hfirst hq => ?_, fun hfirst hq => ?_, fun hagain hwait => ?_⟩
    · rw [gapSeen_handed (by rw [gapMarked_first hfirst]) hq, gapMarked_first hfirst]
      rfl
    · rw [gapSeen_waits (.inr hq), gapMarked_first hfirst]
    · rw [gapSeen_waits (by rwa [gapMarked_again hagain]), gapMarked_again hagain]
  · rw [sequencedArrived_behind hbehind]

/-! ### The oldest frame started -/

/-- In the running part APPLY_FRAME_START starts the oldest frame, if it can be started (R162). -/
theorem exec_applyFrameStart {s : State} {f : QueuedFrame} {rest : List QueuedFrame} (h : Startable f rest s) :
    exec .applyFrameStart s = .next (startFrame f rest s) := by
  obtain ⟨hp, hq, hf, happly⟩ := h
  simp [exec, execApplyFrameStart, live_running hp, startNext, hq, hf, happly]

/-- A retirement: the frame's effect by its kind on the unit it leaves, then the acknowledgement (R163, R164). -/
theorem retire_eq (f : QueuedFrame) (rest : List QueuedFrame) (s : State) : retire f rest s =
    { retireEffect f.body (s.withReplica (retired f rest s.replica)) with
      replica := acknowledged (coalesceLimit s) (retireEffect f.body (s.withReplica (retired f rest s.replica))).replica } := by
  have hretire : retire f rest s = ackAfterRetire (retireEffect f.body (s.withReplica (retired f rest s.replica))) := rfl
  have hlimit : coalesceLimit (retireEffect f.body (s.withReplica (retired f rest s.replica))) = coalesceLimit s := by
    cases f.body <;> rfl
  rw [hretire, ackAfterRetire_eq, hlimit]

/-- A frame with writes is started once a tag is free for each of them (R94, R162). -/
theorem startFrame_writes {f : QueuedFrame} {s : State} (rest : List QueuedFrame) (h : applyWrites f.body ≠ [])
    (hfree : (applyWrites f.body).length ≤ s.path.freeOwnTags.length) :
    startFrame f rest s = startWrites f rest (applyWrites f.body) s := by
  unfold startFrame
  split
  · next hnone => exact absurd hnone h
  · next w ws hws =>
    rw [hws] at hfree ⊢
    exact if_pos hfree

/-- A frame without writes retires at its start (R162). -/
theorem startFrame_retires {f : QueuedFrame} (h : applyWrites f.body = []) (rest : List QueuedFrame) (s : State) :
    startFrame f rest s = retire f rest s := by
  unfold startFrame
  split
  · rfl
  · next hws => exact absurd (h.symm.trans hws) nofun

/-- Settles O32: MARK and DONE by the effect of their retirement, DATA and PAGE by their writes. -/
theorem oldestFrameIsStarted : Obligations.OldestFrameIsStarted := by
  intro s f rest hf
  rw [exec_applyFrameStart hf]
  refine ⟨fun v i hb => ?_, fun copied skipped hb => ?_, fun a be bytes hb hfree => ?_, fun p k bytes hb hfree => ?_⟩
  · rw [startFrame_retires (by rw [hb]; rfl), retire_eq, hb]
    rfl
  · rw [startFrame_retires (by rw [hb]; rfl), retire_eq, hb]
    rfl
  · rw [startFrame_writes rest (by rw [hb]; nofun) (by rw [hb]; exact hfree), startWrites, hb]
    rfl
  · rw [startFrame_writes rest (by rw [hb]; nofun) (by rw [hb]; exact hfree), startWrites, hb]
    cases hc : s.replica.consistency <;> rfl

/-! ### WELCOME ACCEPT and the reply list -/

/-- Exactly one accepted flag changes the consistency state (R152, R167). -/
theorem flagsAct_eq (r : Replica) : flagsAct r =
    if r.catchupFollows = true ∧ r.cleanStart = false then .catching
    else if r.catchupFollows = false ∧ r.cleanStart = true then .consistent
    else r.consistency := by
  unfold flagsAct
  split <;> simp [*]

/-- The mirror-link transmitter is ready without a frame in it and without HOLD against it (R120, R121, R137). -/
theorem linkTxReady_iff (s : State) :
    linkTxReady s = true ↔ s.linkLine.tx = none ∧ ¬(s.role = .primary ∧ s.holdIn = true) := by
  rw [linkTxReady, Bool.and_eq_true, Option.isNone_iff_eq_none, Bool.not_eq_true', ← heldOff_iff, Bool.not_eq_true]

/-- Settles O34: the conditions of each step hold, and its effect is that of the statement. -/
theorem repliesAreSent : Obligations.RepliesAreSent := by
  refine ⟨fun s hp hsession hpending happly => ?_, fun s f rest hp htx hhold hreplies => ?_⟩
  · have hsent : exec .welcomeAcceptSend s = .next (acceptSend s) := by
      simp [exec, execWelcomeAcceptSend, live_running hp, hsession, hpending, happly]
    rw [hsent, ← flagsAct_eq]
    rfl
  · have hsent : exec .replyFrameTransmitStart s = .next (sendReply s) := by
      simp only [exec, execReplyFrameTransmitStart, live_running hp, if_pos ((linkTxReady_iff s).2 ⟨htx, hhold⟩)]
    rw [hsent, sendReply, hreplies]
    rfl

end Sys2Proof.Proofs
end

section
/-! PROOFS. The reply list under its own operations: a WELCOME or a BYE joins once, an acknowledgement frame takes the place of
one that waits, and frames leave it (R149, R165). -/
namespace Sys2Proof.Proofs

open Sys2Proof.Machine Sys2Proof.Safety

/-- What RepliesOk asks of the reply list (R165). -/
structure ReplyListOk (rs : List LinkFrame) : Prop where
  welcome : rs.countP isWelcome ≤ 1
  ack : rs.countP isAckFrame ≤ 1
  bye : rs.countP isBye ≤ 1
  kinds : ∀ f ∈ rs, isWelcome f || isAckFrame f || isBye f

/-- The invariant of the part is that of its reply list. -/
theorem repliesOk_iff (s : State) : RepliesOk s ↔ ReplyListOk s.replica.replies :=
  ⟨fun ⟨welcome, ack, bye, kinds⟩ => ⟨welcome, ack, bye, kinds⟩, fun h => ⟨h.welcome, h.ack, h.bye, h.kinds⟩⟩

/-- An acknowledgement frame is neither a WELCOME nor a BYE (R109). -/
theorem isAckFrame_apart {f : LinkFrame} (h : isAckFrame f = true) : isWelcome f = false ∧ isBye f = false := by
  cases hb : f.body <;> simp_all [isAckFrame, isWelcome, isBye]

/-- Frames that leave the list keep it within its kinds (R149, R165). -/
theorem ReplyListOk.sublist {rs qs : List LinkFrame} (h : ReplyListOk rs) (hsub : qs.Sublist rs) : ReplyListOk qs where
  welcome := Nat.le_trans hsub.countP_le h.welcome
  ack := Nat.le_trans hsub.countP_le h.ack
  bye := Nat.le_trans hsub.countP_le h.bye
  kinds f hf := h.kinds f (hsub.subset hf)

/-- A kind of frame that joins only where none waits stays at one (R165). -/
theorem countP_joinOnce_same {same : LinkFrame → Bool} {rs : List LinkFrame} (h : rs.countP same ≤ 1) (f : LinkFrame) :
    (joinOnce same f rs).countP same ≤ 1 := by
  unfold joinOnce
  split
  · exact h
  · next hnone =>
    have hzero : rs.countP same = 0 := by simpa [List.countP_eq_zero] using hnone
    simp only [List.countP_append, hzero, List.countP_singleton]
    split <;> omega

/-- The other kinds are not touched by a frame that joins once (R165). -/
theorem countP_joinOnce_other {p : LinkFrame → Bool} {f : LinkFrame} (hf : p f = false) (same : LinkFrame → Bool)
    (rs : List LinkFrame) : (joinOnce same f rs).countP p = rs.countP p := by
  unfold joinOnce
  split
  · rfl
  · simp [hf]

/-- A frame of a joined list is the one that joined, or stood there (R165). -/
theorem mem_joinOnce {same : LinkFrame → Bool} {f g : LinkFrame} {rs : List LinkFrame} (h : g ∈ joinOnce same f rs) :
    g ∈ rs ∨ g = f := by
  unfold joinOnce at h
  split at h
  · exact .inl h
  · simpa using h

/-- A WELCOME joins once (R165). -/
theorem ReplyListOk.joinWelcome {rs : List LinkFrame} (h : ReplyListOk rs) (session : Byte) (result : WelcomeResult) :
    ReplyListOk (joinOnce isWelcome { session := session, body := .welcome result } rs) where
  welcome := countP_joinOnce_same h.welcome _
  ack := by
    rw [countP_joinOnce_other rfl]
    exact h.ack
  bye := by
    rw [countP_joinOnce_other rfl]
    exact h.bye
  kinds g hg := (mem_joinOnce hg).elim (h.kinds g) (by rintro rfl; rfl)

/-- A BYE joins once (R165). -/
theorem ReplyListOk.joinBye {rs : List LinkFrame} (h : ReplyListOk rs) (session : Byte) (reason : ByeReason) :
    ReplyListOk (joinOnce isBye { session := session, body := .bye reason } rs) where
  welcome := by
    rw [countP_joinOnce_other rfl]
    exact h.welcome
  ack := by
    rw [countP_joinOnce_other rfl]
    exact h.ack
  bye := countP_joinOnce_same h.bye _
  kinds g hg := (mem_joinOnce hg).elim (h.kinds g) (by rintro rfl; rfl)

/-- A frame that takes the place of each acknowledgement frame leaves the number of frames of a kind as it is, if it is of
that kind exactly where they are (R165). -/
theorem countP_replaceAck {p : LinkFrame → Bool} {f : LinkFrame} (hp : ∀ g, isAckFrame g = true → p g = p f)
    (rs : List LinkFrame) : (rs.map (fun g => if isAckFrame g then f else g)).countP p = rs.countP p := by
  rw [List.countP_map]
  refine congrArg (List.countP · rs) (funext fun g => ?_)
  dsimp only [Function.comp]
  split
  · next hg => exact (hp g hg).symm
  · rfl

/-- An acknowledgement frame takes the place of one that waits, or joins (R165). -/
theorem ReplyListOk.withAck {rs : List LinkFrame} (h : ReplyListOk rs) {f : LinkFrame} (hf : isAckFrame f = true) :
    ReplyListOk (withAckFrame f rs) := by
  obtain ⟨hwelcome, hbye⟩ := isAckFrame_apart hf
  unfold withAckFrame
  split
  · have hpw : ∀ g, isAckFrame g = true → isWelcome g = isWelcome f := fun g hg =>
      (isAckFrame_apart hg).1.trans hwelcome.symm
    have hpb : ∀ g, isAckFrame g = true → isBye g = isBye f := fun g hg => (isAckFrame_apart hg).2.trans hbye.symm
    have hpa : ∀ g, isAckFrame g = true → isAckFrame g = isAckFrame f := fun g hg => hg.trans hf.symm
    refine ⟨by rw [countP_replaceAck hpw]; exact h.welcome, by rw [countP_replaceAck hpa]; exact h.ack,
      by rw [countP_replaceAck hpb]; exact h.bye, fun g hg => ?_⟩
    obtain ⟨q, hq, rfl⟩ := List.mem_map.1 hg
    split
    · simp [hf]
    · exact h.kinds q hq
  · next hnone =>
    have hzero : rs.countP isAckFrame = 0 := by simpa [List.countP_eq_zero] using hnone
    refine ⟨by simpa [hwelcome] using h.welcome, by simp [hzero, hf], by simpa [hbye] using h.bye, fun g hg => ?_⟩
    rcases List.mem_append.1 hg with hg | hg
    · exact h.kinds g hg
    · simp [List.mem_singleton.1 hg, hf]

end Sys2Proof.Proofs
end

section
/-! PROOFS. Everything that can happen in the replica apply unit, one event at a time, and that each event keeps the unit and its
reply list in order (R147 to R149, R152, R155 to R169). -/
namespace Sys2Proof.Proofs

open Sys2Proof.Machine Sys2Proof.Safety

/-! ### The events -/

/-- The unit after a frame left the queue: no apply write in flight, and the marker and the consistency that the frame's kind
gives (R162, R163, R166, R167). -/
def retiredWith (f : QueuedFrame) (rest : List QueuedFrame) (m : Marker) (c : Consistency) (r : Replica) : Replica :=
  { retired f rest r with applying := none, marker := m, consistency := c }

/-- What can happen in the unit at once (R147 to R149, R152, R155 to R168). -/
inductive UnitEvent (r : Replica) : Replica → Prop where
  | noted (m : Marker) (c : Consistency) : UnitEvent r { r with marker := m, consistency := c }
  | reset (m : Marker) (c : Consistency) : UnitEvent r { Replica.reset with marker := m, consistency := c }
  | left (bye : Option ByeReason) (dest : ReplicaState) (hdest : dest ≠ .session) : UnitEvent r (r.left bye dest)
  | turned (dest : ReplicaState) (hstate : r.state ≠ .session) (hdest : dest ≠ .session) :
      UnitEvent r { r with state := dest }
  | accepted (session : Byte) (follows clean : Bool) (window : Nat) (hstate : r.state ≠ .session) : UnitEvent r { r with
      state := .session, session := session, expected := 0, ackPoint := 0, retired := 0, nakOutstanding := false,
      nakDue := false, catchupFollows := follows, cleanStart := clean, window := window, welcomePending := true }
  | welcomed (session : Byte) (result : WelcomeResult) : UnitEvent r (r.sendWelcome session result)
  | welcomeDone : UnitEvent r { r with welcomePending := false }
  | queued (b : SeqBody) (region : Option (Fin 32)) (hstate : r.state = .session) (hroom : r.queue.length < 16) :
      UnitEvent r (enqueued r.expected b region r)
  | gap (hstate : r.state = .session) : UnitEvent r (gapSeen r)
  | acked : UnitEvent r (ackHanded r)
  | started (f : QueuedFrame) (rest : List QueuedFrame) (w : ApplyWork) (hqueue : r.queue = f :: rest)
      (hw : 1 ≤ w.remaining ∧ w.remaining ≤ 4) :
      UnitEvent r { r with queue := { f with started := true } :: rest, applying := some w }
  | counted (w : ApplyWork) (e : Option LineAddr) (hw : r.applying = some w) (hmore : 2 ≤ w.remaining) :
      UnitEvent r { r with applying := some { w with remaining := w.remaining - 1, firstError := e } }
  | idle (h : r.state = .session → ∀ f ∈ r.queue.head?, f.started = false) : UnitEvent r { r with applying := none }
  | retires (f : QueuedFrame) (rest : List QueuedFrame) (limit : Nat) (m : Marker) (c : Consistency)
      (hqueue : r.queue = f :: rest) : UnitEvent r (acknowledged limit (retiredWith f rest m c r))
  | replySent (f : LinkFrame) (rest : List LinkFrame) (hreplies : r.replies = f :: rest) :
      UnitEvent r { r with replies := rest }

/-- What can happen in the unit in one step: events one after the other. -/
inductive UnitRun (r : Replica) : Replica → Prop where
  | refl : UnitRun r r
  | tail {q p : Replica} (hrun : UnitRun r q) (hlast : UnitEvent q p) : UnitRun r p

/-- One event is a run. -/
theorem UnitRun.single {r q : Replica} (h : UnitEvent r q) : UnitRun r q :=
  .tail .refl h

/-- A run after a run is a run. -/
theorem UnitRun.trans {r q p : Replica} (h : UnitRun r q) (hnext : UnitRun q p) : UnitRun r p := by
  induction hnext with
  | refl => exact h
  | tail _ hlast ih => exact ih.tail hlast

/-! ### The reply list -/

/-- The acknowledgement after a retirement keeps the reply list in order (R164, R165). -/
theorem ReplyListOk.acknowledged {r : Replica} (h : ReplyListOk r.replies) (limit : Nat) :
    ReplyListOk (acknowledged limit r).replies := by
  unfold Safety.acknowledged
  split
  · exact h.withAck rfl
  · split
    · exact h.withAck rfl
    · exact h

/-- A gap keeps the reply list in order (R157, R165). -/
theorem ReplyListOk.gapSeen {r : Replica} (h : ReplyListOk r.replies) : ReplyListOk (gapSeen r).replies := by
  have hmarked : (gapMarked r).replies = r.replies := by
    unfold gapMarked
    split <;> rfl
  rw [← hmarked] at h
  unfold Proofs.gapSeen
  split
  · exact h.withAck rfl
  · exact h

/-- A session left keeps the reply list in order: acknowledgement frames leave it, and a BYE joins once (R149, R165). -/
theorem ReplyListOk.left {r : Replica} (h : ReplyListOk r.replies) (bye : Option ByeReason) (dest : ReplicaState) :
    ReplyListOk (r.left bye dest).replies := by
  have hkept : ReplyListOk (r.replies.filter fun f => !isAckFrame f) := h.sublist List.filter_sublist
  cases bye with
  | none => exact hkept
  | some reason => exact hkept.joinBye r.session reason

/-- Every event keeps the reply list in order (R165). -/
theorem ReplyListOk.event {r q : Replica} (h : ReplyListOk r.replies) (hrq : UnitEvent r q) : ReplyListOk q.replies := by
  cases hrq with
  | reset m c => exact ⟨Nat.zero_le _, Nat.zero_le _, Nat.zero_le _, nofun⟩
  | left bye dest hdest => exact h.left bye dest
  | welcomed session result => exact h.joinWelcome session result
  | gap hstate => exact h.gapSeen
  | acked => exact h.withAck rfl
  | retires f rest limit m c hqueue => exact ReplyListOk.acknowledged (r := retiredWith f rest m c r) h limit
  | replySent f rest hreplies =>
    rw [hreplies] at h
    exact h.sublist (List.sublist_cons_self f rest)
  | noted | turned | accepted | welcomeDone | queued | started | counted | idle => exact h

/-! ### The unit -/

/-- What ReplicaOk asks of the unit, the NAK that is due aside (R147, R155, R160 to R163). -/
structure QueueOk (r : Replica) : Prop where
  outside : r.state ≠ .session → sessionFieldsClear r
  inOrder : r.state = .session → queueInOrder r
  bound : r.queue.length ≤ 16
  asserted : 12 ≤ r.queue.length → r.hold = true
  withdrawn : r.queue.length ≤ 8 → r.hold = false
  later : ∀ f ∈ r.queue.tail, f.started = false
  oldest : ∀ f ∈ r.queue.head?, f.started = true → r.applying.isSome
  writes : ∀ w ∈ r.applying, 1 ≤ w.remaining ∧ w.remaining ≤ 4

/-- What ReplicaOk asks of the unit (R147, R155, R160 to R164). -/
structure UnitOk (r : Replica) : Prop extends QueueOk r where
  due : r.nakDue = true → r.nakOutstanding = true ∧ r.queue ≠ []

/-- The invariant of the part is that of its replica apply unit. -/
theorem replicaOk_iff (s : State) : ReplicaOk s ↔ UnitOk s.replica :=
  ⟨fun ⟨outside, inOrder, bound, asserted, withdrawn, later, oldest, writes, due⟩ =>
    ⟨⟨outside, inOrder, bound, asserted, withdrawn, later, oldest, writes⟩, due⟩,
    fun h => ⟨h.outside, h.inOrder, h.bound, h.asserted, h.withdrawn, h.later, h.oldest, h.writes, h.due⟩⟩

/-- Outside a session the unit is in order once its session's fields are clear (R147, R149). -/
theorem unitOk_outside {r : Replica} (hstate : r.state ≠ .session) (h : sessionFieldsClear r)
    (hwrites : ∀ w ∈ r.applying, 1 ≤ w.remaining ∧ w.remaining ≤ 4) : UnitOk r := by
  obtain ⟨hqueue, -, -, -, -, -, -, -, -, hdue, hhold⟩ := id h
  exact {
    outside := fun _ => h
    inOrder := fun hs => absurd hs hstate
    bound := by simp [hqueue]
    asserted := by simp [hqueue]
    withdrawn := fun _ => hhold
    later := by simp [hqueue]
    oldest := by simp [hqueue]
    writes := hwrites
    due := by simp [hdue] }

/-- With frames queued the unit is in a session (R147). -/
theorem QueueOk.session_of_queue {r : Replica} (h : QueueOk r) {f : QueuedFrame} {rest : List QueuedFrame}
    (hqueue : r.queue = f :: rest) : r.state = .session := by
  refine Decidable.byContradiction fun hstate => ?_
  obtain ⟨hnil, -⟩ := h.outside hstate
  exact List.cons_ne_nil f rest (hqueue.symm.trans hnil)

/-- The oldest frame carries the acknowledgement point, and without it the queue is in order from the next one (R160, R163). -/
theorem queueInOrder_cons {r : Replica} {f : QueuedFrame} {rest : List QueuedFrame} (hqueue : r.queue = f :: rest) :
    queueInOrder r ↔ f.seq = r.ackPoint
      ∧ rest.map QueuedFrame.seq = (List.range rest.length).map (fun k => f.seq + 1 + BitVec.ofNat 16 k)
      ∧ r.expected = f.seq + 1 + BitVec.ofNat 16 rest.length := by
  have hnext : ∀ k, r.ackPoint + BitVec.ofNat 16 (k + 1) = r.ackPoint + 1 + BitVec.ofNat 16 k := fun k => by
    rw [BitVec.ofNat_add, BitVec.add_comm (BitVec.ofNat 16 k), BitVec.add_assoc]
    rfl
  simp only [queueInOrder, hqueue, List.map_cons, List.length_cons, List.range_succ_eq_map, List.cons.injEq,
    List.map_map, Function.comp_def, Nat.succ_eq_add_one, hnext, BitVec.add_zero, and_assoc]
  constructor
  · rintro ⟨hf, hrest, hexp⟩
    rw [hf]
    exact ⟨rfl, hrest, hexp⟩
  · rintro ⟨hf, hrest, hexp⟩
    rw [← hf]
    exact ⟨rfl, hrest, hexp⟩

/-- From 12 frames on HOLD is asserted (R161). -/
theorem holdLevel_high {n : Nat} (h : 12 ≤ n) (level : Bool) : holdLevel n level = true :=
  if_pos h

/-- From 8 frames down HOLD is withdrawn (R161). -/
theorem holdLevel_low {n : Nat} (h : n ≤ 8) (level : Bool) : holdLevel n level = false :=
  (if_neg (by simp only [Config.holdHigh]; omega)).trans (if_pos h)

/-- The count of retired frames put to 0 keeps the queue in order (R164). -/
theorem QueueOk.ackHanded {r : Replica} (h : QueueOk r) : QueueOk (ackHanded r) :=
  { h with
    outside := fun hstate =>
      let ⟨queue, session, pending, follows, clean, window, expected, _, outstanding, due, hold⟩ := h.outside hstate
      ⟨queue, session, pending, follows, clean, window, expected, rfl, outstanding, due, hold⟩ }

/-- With the NAK handed over the whole unit is in order (R164). -/
theorem QueueOk.nakHanded {r : Replica} (h : QueueOk r) : UnitOk (nakHanded r) :=
  { h with
    outside := fun hstate =>
      let ⟨queue, session, pending, follows, clean, window, expected, _, outstanding, _, hold⟩ := h.outside hstate
      ⟨queue, session, pending, follows, clean, window, expected, rfl, outstanding, rfl, hold⟩
    due := nofun }

/-- After the acknowledgement of a retirement no NAK is due with the queue empty (R164). -/
theorem QueueOk.acknowledged {r : Replica} (h : QueueOk r) (hdue : r.nakDue = true → r.nakOutstanding = true)
    (limit : Nat) : UnitOk (acknowledged limit r) := by
  unfold Safety.acknowledged
  split
  · exact h.nakHanded
  · next hnone =>
    have hwaits : r.nakDue = true → r.nakOutstanding = true ∧ r.queue ≠ [] := fun hnak =>
      ⟨hdue hnak, fun hqueue => hnone ⟨hqueue, hnak⟩⟩
    split
    · exact ⟨h.ackHanded, hwaits⟩
    · exact ⟨h, hwaits⟩

/-- A retirement: the queue is in order from the next acknowledgement point on (R161, R163). -/
theorem UnitOk.retires {r : Replica} (h : UnitOk r) {f : QueuedFrame} {rest : List QueuedFrame}
    (hqueue : r.queue = f :: rest) (limit : Nat) (m : Marker) (c : Consistency) :
    UnitOk (acknowledged limit (retiredWith f rest m c r)) := by
  have hsession := h.session_of_queue hqueue
  obtain ⟨-, hrest, hexp⟩ := (queueInOrder_cons hqueue).1 (h.inOrder hsession)
  have hlater := h.later
  have hbound := h.bound
  rw [hqueue] at hlater hbound
  refine QueueOk.acknowledged (r := retiredWith f rest m c r) ?_ (fun hnak => (h.due hnak).1) limit
  exact {
    outside := fun hstate => absurd hsession hstate
    inOrder := fun _ => ⟨hrest, hexp⟩
    bound := Nat.le_of_succ_le hbound
    asserted := fun hlen => holdLevel_high hlen _
    withdrawn := fun hlen => holdLevel_low hlen _
    later := fun g hg => hlater g (List.mem_of_mem_tail hg)
    oldest := fun g hg hstarted => absurd (hlater g (List.mem_of_mem_head? hg)) (by simp [hstarted])
    writes := nofun }

/-- Only the oldest frame of a queue can be started, and so after an unstarted one joins it (R155, R162). -/
theorem unstarted_tail_concat {q : List QueuedFrame} {x : QueuedFrame} (h : ∀ f ∈ q.tail, f.started = false)
    (hx : x.started = false) : ∀ f ∈ (q ++ [x]).tail, f.started = false := by
  cases q with
  | nil => simp
  | cons g rest =>
    intro f hf
    rcases List.mem_append.1 hf with hf | hf
    · exact h f hf
    · rwa [List.mem_singleton.1 hf]

/-- The oldest frame of a queue that one more joined is the oldest before, or the one that joined (R155). -/
theorem head?_concat {q : List QueuedFrame} {f x : QueuedFrame} (h : f ∈ (q ++ [x]).head?) : f ∈ q.head? ∨ f = x := by
  cases q with
  | nil => exact .inr (Option.some.inj h).symm
  | cons g rest => exact .inl h

/-- A frame with the expected sequence joins the queue in order (R155, R161). -/
theorem UnitOk.enqueued {r : Replica} (h : UnitOk r) (hstate : r.state = .session) (hroom : r.queue.length < 16)
    (b : SeqBody) (region : Option (Fin 32)) : UnitOk (enqueued r.expected b region r) := by
  obtain ⟨hseq, hexp⟩ := h.inOrder hstate
  have hlen : (Proofs.enqueued r.expected b region r).queue.length = r.queue.length + 1 := by
    simp [Proofs.enqueued]
  exact {
    outside := fun hs => absurd hstate hs
    inOrder := fun _ => by
      refine ⟨?_, ?_⟩
      · simp only [Proofs.enqueued, List.map_append, hseq, List.length_append, List.length_singleton, List.range_succ,
          List.map_cons, List.map_nil, ← hexp]
      · rw [hlen, BitVec.ofNat_add, ← BitVec.add_assoc]
        exact congrArg (· + 1) hexp
    bound := by omega
    asserted := fun hn => holdLevel_high (hlen ▸ hn) _
    withdrawn := fun hn => holdLevel_low (hlen ▸ hn) _
    later := unstarted_tail_concat h.later rfl
    oldest := fun g hg hstarted => by
      rcases head?_concat hg with hg | rfl
      · exact h.oldest g hg hstarted
      · exact absurd hstarted Bool.false_ne_true
    writes := h.writes
    due := nofun }

/-- A gap in a session keeps the unit in order (R157, R158, R164). -/
theorem UnitOk.gapSeen {r : Replica} (h : UnitOk r) (hstate : r.state = .session) : UnitOk (gapSeen r) := by
  have hmarked : QueueOk (gapMarked r) ∧ ((gapMarked r).nakDue = true → (gapMarked r).nakOutstanding = true) := by
    unfold gapMarked
    split
    · exact ⟨h.toQueueOk, fun hdue => (h.due hdue).1⟩
    · exact ⟨{ h.toQueueOk with outside := fun hs => absurd hstate hs }, fun _ => rfl⟩
  obtain ⟨hqueue, hdue⟩ := hmarked
  unfold Proofs.gapSeen
  split
  · exact hqueue.nakHanded
  · next hnone =>
    exact ⟨hqueue, fun hnak => ⟨hdue hnak, fun hnil => hnone ⟨hnak, by rwa [gapMarked_queue] at hnil⟩⟩⟩

/-- A session accepted: its sequences start at 0 with an empty queue (R152). -/
theorem UnitOk.accepted {r : Replica} (h : UnitOk r) (hstate : r.state ≠ .session) (session : Byte)
    (follows clean : Bool) (window : Nat) : UnitOk { r with
      state := .session, session := session, expected := 0, ackPoint := 0, retired := 0, nakOutstanding := false,
      nakDue := false, catchupFollows := follows, cleanStart := clean, window := window, welcomePending := true } := by
  obtain ⟨hqueue, -⟩ := h.outside hstate
  exact { h with
    outside := fun hs => absurd rfl hs
    inOrder := fun _ => by simp [queueInOrder, hqueue]
    due := nofun }

/-- A frame whose writes are handed over is the only one started (R162). -/
theorem UnitOk.started {r : Replica} (h : UnitOk r) {f : QueuedFrame} {rest : List QueuedFrame}
    (hqueue : r.queue = f :: rest) {w : ApplyWork} (hw : 1 ≤ w.remaining ∧ w.remaining ≤ 4) :
    UnitOk { r with queue := { f with started := true } :: rest, applying := some w } := by
  have hsession := h.session_of_queue hqueue
  have hbound := h.bound
  have hasserted := h.asserted
  have hwithdrawn := h.withdrawn
  have hlater := h.later
  rw [hqueue] at hbound hasserted hwithdrawn hlater
  exact {
    outside := fun hs => absurd hsession hs
    inOrder := fun hs => (queueInOrder_cons (f := { f with started := true }) rfl).2 ((queueInOrder_cons hqueue).1 (h.inOrder hs))
    bound := hbound
    asserted := hasserted
    withdrawn := hwithdrawn
    later := hlater
    oldest := fun _ _ _ => rfl
    writes := fun x hx => Option.some.inj hx ▸ hw
    due := fun hnak => ⟨(h.due hnak).1, nofun⟩ }

/-- Every event keeps the unit in order. -/
theorem UnitOk.event {r q : Replica} (h : UnitOk r) (hrq : UnitEvent r q) : UnitOk q := by
  cases hrq with
  | noted m c => exact { h with }
  | reset m c => exact unitOk_outside (by simp [Replica.reset]) (by simp [sessionFieldsClear, Replica.reset]) nofun
  | left bye dest hdest => exact unitOk_outside hdest ⟨rfl, rfl, rfl, rfl, rfl, rfl, rfl, rfl, rfl, rfl, rfl⟩ h.writes
  | turned dest hstate hdest => exact unitOk_outside hdest (h.outside hstate) h.writes
  | accepted session follows clean window hstate => exact h.accepted hstate session follows clean window
  | welcomed session result => exact { h with }
  | welcomeDone =>
    exact { h with
      outside := fun hstate =>
        let ⟨queue, session, _, rest⟩ := h.outside hstate
        ⟨queue, session, rfl, rest⟩ }
  | queued b region hstate hroom => exact h.enqueued hstate hroom b region
  | gap hstate => exact h.gapSeen hstate
  | acked => exact ⟨h.toQueueOk.ackHanded, h.due⟩
  | started f rest w hqueue hw => exact h.started hqueue hw
  | counted w e hw hmore =>
    have hbounds := h.writes w hw
    exact { h with
      oldest := fun _ _ _ => rfl
      writes := fun x hx => by
        obtain rfl := Option.some.inj hx
        dsimp only
        omega }
  | idle hunstarted =>
    by_cases hstate : r.state = .session
    · exact { h with
        oldest := fun f hf hstarted => absurd hstarted (by simp [hunstarted hstate f hf])
        writes := nofun }
    · exact unitOk_outside hstate (h.outside hstate) nofun
  | retires f rest limit m c hqueue => exact h.retires hqueue limit m c
  | replySent f rest hreplies => exact { h with }

end Sys2Proof.Proofs
end

section
/-! PROOFS. The events that each operation of the replica apply unit comes to: sessions left and accepted, frames placed,
started and retired, apply writes answered, replies handed over and sent (R147 to R171). -/
namespace Sys2Proof.Proofs

open Sys2Proof.Machine Sys2Proof.Safety

/-! ### Sessions -/

/-- The consistency changed, and nothing else (R167). -/
theorem unitRun_consistency (r : Replica) (c : Consistency) : UnitRun r { r with consistency := c } :=
  .single (.noted r.marker c)

/-- A session left (R149). -/
theorem unitRun_leaveSession {dest : ReplicaState} (h : dest ≠ .session) (bye : Option ByeReason) (s : State) :
    UnitRun s.replica (leaveSession bye dest s).replica :=
  .single (.left bye dest h)

/-- STOP NOW in the replica role (R148). -/
theorem unitRun_stopReplica (s : State) : UnitRun s.replica (stopReplica s).replica := by
  unfold stopReplica
  split
  · exact unitRun_leaveSession (dest := .off) nofun _ s
  · next hstate => exact .single (.turned .off (by simp [hstate]) nofun)
  · exact .refl

/-- PROMOTE carried out (R171). -/
theorem unitRun_performPromote (s : State) : UnitRun s.replica (performPromote s).replica := by
  unfold performPromote
  dsimp only
  split
  · exact unitRun_leaveSession (dest := .off) nofun (some .promoted) s
  · next hstate => exact .single (.turned .off (by simp [hstate]) nofun)
  · exact .refl

/-- A HELLO judged outside a session (R151, R152). -/
theorem unitRun_judgeHello (session : Byte) (h : HelloBody) {s : State} (hs : s.replica.state ≠ .session) :
    UnitRun s.replica (judgeHello session h s).replica := by
  rw [judgeHello_eq]
  dsimp only
  split
  · exact .single (.welcomed session _)
  · split
    · exact .single (.welcomed session _)
    · exact .single (.accepted session _ _ _ hs)

/-- A HELLO taken in LISTENING or SESSION (R151, R153, R154). -/
theorem unitRun_helloArrived (session : Byte) (h : HelloBody) (s : State) :
    UnitRun s.replica (helloArrived session h s).replica := by
  unfold helloArrived
  split
  · split
    · unfold helloAgain
      split
      · exact .refl
      · exact .single (.welcomed session _)
    · have hleft := unitRun_leaveSession (dest := .listening) nofun none s
      exact hleft.trans (unitRun_judgeHello session h (s := leaveSession none .listening s) nofun)
  · next hstate => exact unitRun_judgeHello session h (by simp [hstate])
  · exact .refl

/-- WELCOME ACCEPT sent (R152, R167). -/
theorem unitRun_acceptSend (s : State) : UnitRun s.replica (acceptSend s).replica :=
  let hsent : UnitRun s.replica (s.replica.sendWelcome s.replica.session .accept) := .single (.welcomed _ _)
  (hsent.tail .welcomeDone).trans (unitRun_consistency _ _)

/-- The oldest frame of the reply list begins (R165). -/
theorem unitRun_sendReply (s : State) : UnitRun s.replica (sendReply s).replica := by
  unfold sendReply
  split
  · next f rest hreplies => exact .single (.replySent f rest hreplies)
  · exact .refl

/-! ### Frames of the session -/

/-- An in-order frame that passed its region check (R155, R158). -/
theorem unitRun_enqueue {n : SeqNum} {s : State} (hs : s.replica.state = .session) (hn : n = s.replica.expected)
    (b : SeqBody) (region : Option (Fin 32)) : UnitRun s.replica (enqueue n b region s).replica := by
  by_cases hroom : s.replica.queue.length < 16
  · rw [enqueue_room hroom, hn]
    exact .single (.queued b region hs hroom)
  · rw [enqueue_full (Nat.not_lt.1 hroom)]
    exact .single (.gap hs)

/-- An in-order frame (R155, R156). -/
theorem unitRun_inOrder {n : SeqNum} {s : State} (hs : s.replica.state = .session) (hn : n = s.replica.expected)
    (b : SeqBody) : UnitRun s.replica (inOrder n b s).replica := by
  unfold inOrder
  split
  · exact unitRun_enqueue hs hn b none
  · split
    · exact unitRun_enqueue hs hn b _
    · exact unitRun_leaveSession (dest := .listening) nofun _ (Machine.discard .region s)

/-- A sequenced frame of the session, by its distance (R155, R157, R159). -/
theorem unitRun_sequencedArrived (n : SeqNum) (b : SeqBody) {s : State} (hs : s.replica.state = .session) :
    UnitRun s.replica (sequencedArrived n b s).replica := by
  rcases Nat.eq_zero_or_pos (n - s.replica.expected).toNat with hzero | hpos
  · have hn : n = s.replica.expected := by bv_omega
    rw [sequencedArrived_expected hn]
    exact unitRun_inOrder hs hn b
  · rcases Nat.lt_or_ge 32767 (n - s.replica.expected).toNat with hbehind | hahead
    · rw [sequencedArrived_behind hbehind]
      exact .single .acked
    · rw [sequencedArrived_ahead hpos hahead]
      exact .single (.gap hs)

/-- A replica takes a sequenced frame in SESSION alone (R150). -/
theorem session_of_taken {session : Byte} {n : SeqNum} {b : SeqBody} {s : State}
    (h : stateVerdict { session := session, body := .seq n b } s = none) : s.replica.state = .session := by
  cases hr : s.role with
  | primary => exact absurd ((stateVerdict_primary_seq hr ⟨n, b, rfl⟩).symm.trans h) nofun
  | replica =>
    cases hs : s.replica.state with
    | off => simp [stateVerdict_replica_off _ hr hs] at h
    | listening => simp [stateVerdict_replica_listening hr hs, isHello] at h
    | session => rfl

/-! ### Applies -/

/-- A retirement's effect is on the marker and the consistency alone (R163, R166, R167). -/
theorem retireEffect_replica (b : SeqBody) (s : State) : ∃ m c,
    (retireEffect b s).replica = { s.replica with marker := m, consistency := c } := by
  cases b with
  | mark value region => exact ⟨{ valid := true, value := value, region := region }, s.replica.consistency, rfl⟩
  | done copied skipped => exact ⟨s.replica.marker, if skipped = 0 then .consistent else .broken, rfl⟩
  | data _ _ _ => exact ⟨s.replica.marker, s.replica.consistency, rfl⟩
  | page _ _ _ => exact ⟨s.replica.marker, s.replica.consistency, rfl⟩

/-- The oldest frame retires with no apply write in flight any more (R162 to R164). -/
theorem unitRun_retire {f : QueuedFrame} {rest : List QueuedFrame} {r : Replica} (hqueue : r.queue = f :: rest)
    {s : State} (hs : s.replica = { r with applying := none }) : UnitRun r (retire f rest s).replica := by
  obtain ⟨m, c, heffect⟩ := retireEffect_replica f.body (s.withReplica (retired f rest s.replica))
  have hretired : (retire f rest s).replica = acknowledged (coalesceLimit s) (retiredWith f rest m c r) := by
    rw [retire_eq]
    dsimp only
    rw [heffect, State.withReplica_replica, hs]
    rfl
  rw [hretired]
  exact .single (.retires f rest _ m c hqueue)

/-- A frame has four writes at most (R162). -/
theorem length_applyWrites_le (b : SeqBody) : (applyWrites b).length ≤ 4 := by
  cases b <;> simp [applyWrites]

/-- The oldest frame started (R162). -/
theorem unitRun_startFrame {f : QueuedFrame} {rest : List QueuedFrame} {s : State}
    (hqueue : s.replica.queue = f :: rest) (happly : s.replica.applying = none) :
    UnitRun s.replica (startFrame f rest s).replica := by
  have hidle : s.replica = { s.replica with applying := none } := by rw [← happly]
  unfold startFrame
  split
  · exact unitRun_retire hqueue hidle
  · next w ws hws =>
    split
    · have hfour := length_applyWrites_le f.body
      rw [hws] at hfour
      have hstarted : UnitRun s.replica _ := .single (.started f rest
        { remaining := (w :: ws).length, firstError := none, region := f.region } hqueue ⟨Nat.succ_pos _, hfour⟩)
      exact hstarted.trans (unitRun_consistency _ _)
    · exact .refl

/-- The oldest unstarted frame started with no apply write in flight (R162). -/
theorem unitRun_startNext (s : State) : UnitRun s.replica (startNext s).replica := by
  unfold startNext
  split
  · next f rest hqueue =>
    split
    · next hready =>
      rw [Bool.and_eq_true, Option.isNone_iff_eq_none] at hready
      exact unitRun_startFrame hqueue hready.2
    · exact .refl
  · exact .refl

/-- The last apply write of a frame answered: the started frame retires, if it still stands in the queue (R162). -/
theorem unitRun_retireStarted {r : Replica} {s : State} (hs : s.replica = { r with applying := none }) :
    UnitRun r (retireStarted s).replica := by
  have hqueue : s.replica.queue = r.queue := by rw [hs]
  have hidle (h : ∀ f ∈ r.queue.head?, f.started = false) : UnitRun r s.replica :=
    hs ▸ .single (.idle fun _ => h)
  unfold retireStarted
  split
  · next f rest hcons =>
    split
    · exact unitRun_retire (hqueue.symm.trans hcons) hs
    · next hunstarted =>
      refine hidle fun g hg => ?_
      rw [← hqueue, hcons] at hg
      rw [← Option.some.inj hg]
      exact Bool.eq_false_iff.2 hunstarted
  · next hnil =>
    refine hidle fun g hg => ?_
    rw [← hqueue, hnil] at hg
    cases hg

/-- An apply fault: a session is left, no apply write is in flight and the consistency is BROKEN (R168). -/
theorem unitRun_applyFault (a : LineAddr) (i : Option (Fin 32)) {r : Replica} {s : State}
    (hs : s.replica = { r with applying := none }) : UnitRun r (applyFault a i s).replica := by
  have hreported : (alerted .applyFault (report .applyFault none a i
      (s.withReplica { s.replica with consistency := .broken }))).replica =
      { r with applying := none, consistency := .broken } := by
    show (report _ _ _ _ _).replica = _
    rw [report_frame, hs]
    rfl
  have hbroken {q : Replica} (h : q.state ≠ .session) : UnitRun q { q with applying := none, consistency := .broken } :=
    (UnitRun.single (.idle (absurd · h))).trans (unitRun_consistency _ _)
  have hstate : s.replica.state = r.state := by rw [hs]
  rw [applyFault_eq]
  split
  · have hleft : UnitRun r (r.left (some .applyFault) .listening) := .single (.left _ _ nofun)
    refine hleft.trans ?_
    rw [← leaveSession_eq, leaveSession_frame, hreported]
    exact hbroken nofun
  · next hnone =>
    rw [hreported]
    exact hbroken (hstate ▸ hnone)

/-- An apply write answered (R162, R168). -/
theorem unitRun_applyAnswered (a : LineAddr) (st : MemStatus) (s : State) :
    UnitRun s.replica (applyAnswered a st s).replica := by
  cases hw : s.replica.applying with
  | none =>
    simp only [applyAnswered, hw]
    exact .refl
  | some w =>
    rw [applyAnswered_eq hw]
    split
    · cases errorAfter w a st with
      | none => exact unitRun_retireStarted rfl
      | some b => exact unitRun_applyFault b w.region rfl
    · next hmore => exact .single (.counted w _ hw (by omega))

end Sys2Proof.Proofs
end

section
/-! PROOFS. What every command does to the replica apply unit: nothing, events of the unit one after the other, or the take of the
replica role by a primary; and so every step keeps the unit and its reply list in order (R147, R155, R160 to R165). -/
namespace Sys2Proof.Proofs

open Sys2Proof.Machine Sys2Proof.Safety

/-- What a step can do to the unit: events one after the other, or a primary takes up the replica role (R170). -/
def ChangesUnit (s t : State) : Prop :=
  UnitRun s.replica t.replica
    ∨ (s.role = .primary ∧ t.replica = { s.replica with consistency := .unknown, hold := false })

/-- The unit does not read lines and counters. -/
theorem stepRelation_changesUnit : StepRelation ChangesUnit where
  refl _ := .inl .refl
  line l x s t h := by cases l <;> exact h
  bump _ _ := .inl .refl

/-- An effect that comes to events of the unit. -/
theorem moves_of_unitRun {f : State → State} (h : ∀ s, UnitRun s.replica (f s).replica) : Moves ChangesUnit f :=
  fun s => .inl (h s)

/-- An effect that leaves the unit as it is. -/
def KeepsUnit (f : State → State) : Prop :=
  ∀ s : State, (f s).replica = s.replica

/-- An effect that keeps the unit comes to no event. -/
theorem KeepsUnit.run {f : State → State} (h : KeepsUnit f) (s : State) : UnitRun s.replica (f s).replica := by
  rw [h s]
  exact .refl

/-- An effect that keeps the unit changes it in no way. -/
theorem KeepsUnit.moves {f : State → State} (h : KeepsUnit f) : Moves ChangesUnit f :=
  moves_of_unitRun h.run

/-- A step of the running part that keeps the unit (R104). -/
theorem KeepsUnit.live {f : State → State} (h : KeepsUnit f) : StepMoves ChangesUnit (Machine.live f) :=
  stepRelation_changesUnit.live h.moves

/-- A step of the running part that keeps the unit, under a condition (R104). -/
theorem KeepsUnit.liveWhen {f : State → State} (h : KeepsUnit f) (c : State → Prop) [∀ s, Decidable (c s)] :
    StepMoves ChangesUnit (Machine.live (fun s => if c s then f s else s)) :=
  stepRelation_changesUnit.live (stepRelation_changesUnit.when h.moves c)

/-- A frame taken that keeps the unit, whatever the role (R111, R142). -/
theorem KeepsUnit.takeFrame (f : LinkFrame) {act : State → State} (h : KeepsUnit act) :
    StepMoves ChangesUnit (Machine.live (Machine.takeFrame f act)) :=
  stepRelation_changesUnit.live (stepRelation_changesUnit.takeFrame f h.moves)

/-- A command served by the port and the slot (R189, R190). -/
theorem serve_changesUnit (c : Instr) (code : Nat) {act : State → State} (h : Moves ChangesUnit act) :
    StepMoves ChangesUnit (serve c code act) :=
  stepRelation_changesUnit.serve c h fun _ _ => .inl .refl

/-- A command whose effect keeps the unit. -/
theorem KeepsUnit.serve (c : Instr) (code : Nat) {act : State → State} (h : KeepsUnit act) :
    StepMoves ChangesUnit (serve c code act) :=
  serve_changesUnit c code h.moves

/-! ### Operations of the other blocks -/

/-- A line replaced (R142). -/
@[simp] theorem replica_withLine (l : LineId) (x : Line) (s : State) : (withLine l x s).replica = s.replica := by
  cases l <;> rfl

/-- A report to the exception list (R176). -/
@[simp] theorem replica_report (k : ExceptionKind) (src : Option Byte) (a : LineAddr) (i : Option (Fin 32)) (s : State) :
    (report k src a i s).replica = s.replica := by
  rw [report_frame]

/-- STOP NOW in the primary role (R48). -/
theorem keepsUnit_stopPrimary : KeepsUnit stopPrimary := fun s => by
  rw [stopPrimary_frame]

/-- A session lost in UP (R46, R47, R52). -/
theorem keepsUnit_sessionLost (cause : LossCause) : KeepsUnit (sessionLost cause) := fun s => by
  rcases sessionLost_cases cause s with ⟨-, h⟩ | ⟨hdraining, -⟩ | ⟨-, h⟩
  · rw [h, convert_frame]; rfl
  · rw [sessionLost_draining cause s hdraining]; rfl
  · rw [h]; rfl

/-- The retry counter compared with its limit (R127). -/
theorem keepsUnit_checkRetry : KeepsUnit checkRetry := fun s => by
  unfold checkRetry
  split
  · exact keepsUnit_sessionLost _ s
  · rfl

/-- The oldest entries removed on an acknowledgement (R21, R62). -/
theorem keepsUnit_removeAcked (d : Nat) : KeepsUnit (removeAcked d) := fun s => by
  rw [removeAcked_eq]; rfl

/-- A frame under collection abandoned (R140). -/
@[simp] theorem replica_abandonFrame (l : LineId) (s : State) : (abandonFrame l s).replica = s.replica := by
  unfold abandonFrame
  split <;> exact replica_withLine ..

/-! ### The memory path -/

/-- A head of intake taken into a tracking entry (R75, R91). -/
theorem keepsUnit_takeInto (t : Fin 64) (req : HostRequest) : KeepsUnit (takeInto t req) := fun s => by
  have hrefused : ∀ c, KeepsUnit (reportRefusal req c) := fun c s => by
    cases c <;> simp [reportRefusal]
  unfold takeInto
  dsimp only
  split
  · exact replica_report ..
  · split
    · exact hrefused ..
    · split <;> rfl

/-- HOST_REQUEST_TAKE (R90, R91, R104). -/
theorem execHostRequestTake_changesUnit (presented : Option HostRequest) :
    StepMoves ChangesUnit (execHostRequestTake presented) := by
  have hhead : KeepsUnit takeHead := fun s => by
    unfold takeHead
    split
    · split
      · rfl
      · exact keepsUnit_takeInto ..
    · rfl
  refine Moves.next (KeepsUnit.moves fun s => ?_)
  split
  · exact hhead _
  · rfl

/-- The capture decision of a mirror write (R30, R31). -/
theorem replica_captureMirror (t : Fin 64) (e : TrackEntry) (i : Fin 32) (p : Policy) (s : State) :
    (captureMirror t e i p s).state.replica = s.replica := by
  have hstreaming : (captureStreaming t e i p s).state.replica = s.replica := by
    unfold captureStreaming
    split <;> split <;> rfl
  cases hm : s.mirror.state <;> simp only [captureMirror, hm]
  case streaming | catchup => exact hstreaming
  all_goals rfl

/-- The capture decision of a signal write (R32). -/
theorem replica_captureSignal (t : Fin 64) (e : TrackEntry) (i : Fin 32) (s : State) :
    (captureSignal t e i s).state.replica = s.replica := by
  have hmark : (captureMark t e i s).state.replica = s.replica := by
    unfold captureMark
    split <;> rfl
  unfold captureSignal
  split
  · cases hm : s.mirror.state
    case streaming | catchup => exact hmark
    all_goals rfl
  · exact replica_report ..

/-- The oldest request of the host queue granted (R95, R96). -/
theorem keepsUnit_grantHost (t : Fin 64) (ts : List (Fin 64)) : KeepsUnit (grantHost t ts) := fun s => by
  have hpledge (e : TrackEntry) : (givePledge e s).replica = s.replica := by
    unfold givePledge
    split <;> rfl
  have hcapture (e : TrackEntry) (s : State) : (captureWrite t e s).state.replica = s.replica := by
    unfold captureWrite
    split
    · exact replica_captureMirror ..
    · exact replica_captureSignal ..
    · rfl
  unfold grantHost
  split
  · unfold forward
    split
    · rfl
    · exact (hcapture ..).trans (hpledge _)
  · rfl
  · rfl

/-- The arbiter's choice (R95). -/
theorem keepsUnit_arbitrate : KeepsUnit arbitrate := fun s => by
  have hown (u : Fin 8) (us : List (Fin 8)) : (grantOwn u us s).replica = s.replica := by
    unfold grantOwn
    split <;> rfl
  unfold arbitrate
  split
  · rfl
  · exact keepsUnit_grantHost ..
  · exact hown ..
  · split
    · exact hown ..
    · exact keepsUnit_grantHost ..

/-- The PAGE entry of a chunk appended, and the sweep advanced (R11, R39, R40). -/
theorem keepsUnit_completeChunk (r : Reservation) : KeepsUnit (completeChunk r) := fun s => by
  have hend : ∀ c, KeepsUnit (endCopy c) := fun c s => by
    unfold endCopy
    split <;> rfl
  unfold completeChunk
  dsimp only
  split
  · split
    · exact hend ..
    · rfl
  · rfl

/-- A line read of a chunk answered (R8, R39, R41, R101). -/
theorem keepsUnit_sweepAnswered (line : Fin 4) (st : MemStatus) (data : List Byte) :
    KeepsUnit (sweepAnswered line st data) := fun s => by
  have hend : ∀ r, KeepsUnit (endChunk r) := fun r s => by
    unfold endChunk
    split
    · rfl
    · split
      · exact replica_report ..
      · exact keepsUnit_completeChunk ..
  unfold sweepAnswered
  split
  · rfl
  · dsimp only
    split
    · rfl
    · exact hend ..

/-- A response with source 255: the answer to an apply write goes to the unit (R97, R101, R103). -/
theorem unitRun_matchOwn (tag : Fin 64) (st : MemStatus) (data : List Byte) (s : State) :
    UnitRun s.replica (matchOwn tag st data s).replica := by
  unfold matchOwn
  split
  · exact .refl
  · next t _ =>
    split
    · next r _ =>
      unfold ownAnswered
      split
      · exact (keepsUnit_sweepAnswered _ st data).run (s.withPath (s.path.freeOwn t))
      · exact unitRun_applyAnswered r.addr st (s.withPath (s.path.freeOwn t))
    all_goals exact .refl

/-- A response with a host source (R97, R98, R99, R103). -/
theorem keepsUnit_matchHost (source : Byte) (t : Fin 64) (st : MemStatus) (data : List Byte) :
    KeepsUnit (matchHost source t st data) := fun s => by
  have htell (e : TrackEntry) : (tellJournal t e st s).replica = s.replica := by
    unfold tellJournal
    split <;> rfl
  have hdecide (rule : CompletionRule) (s : State) : (decideWrite t rule st s).replica = s.replica := by
    unfold decideWrite
    split <;> rfl
  have hanswered (e : TrackEntry) : (hostAnswered t e st data s).replica = s.replica := by
    unfold hostAnswered
    split
    · rfl
    · exact (hdecide ..).trans (htell e)
  unfold matchHost
  split
  · split
    · exact hanswered _
    · rfl
  · split <;> rfl
  · rfl

/-- MEMORY_RESPONSE (R97, R104). -/
theorem execMemoryResponse_changesUnit (source : Byte) (tag : Fin 64) (st : MemStatus) (data : List Byte) :
    StepMoves ChangesUnit (execMemoryResponse source tag st data) := by
  refine Moves.next fun s => ?_
  split
  · exact moves_of_unitRun (unitRun_matchOwn tag st data) s
  · exact (keepsUnit_matchHost source tag st data).moves s

/-- The oldest response passed back (R102). -/
theorem keepsUnit_passBack : KeepsUnit passBack := fun s => by
  unfold passBack
  split
  · rfl
  · split
    · split <;> rfl
    · rfl
    · rfl

/-- CHUNK_READ_ISSUE (R38). -/
theorem execChunkReadIssue_changesUnit : StepMoves ChangesUnit execChunkReadIssue := by
  have hissue : ∀ c, KeepsUnit (issueChunk c) := fun c s => by
    unfold issueChunk
    split
    · rfl
    · split <;> rfl
  refine KeepsUnit.live fun s => ?_
  split
  · split
    · exact hissue _ s
    · rfl
  · rfl

/-! ### The link unit -/

/-- The level at the HOLD connection (R121 to R123, R138). -/
theorem execHold_changesUnit : StepMoves ChangesUnit execHoldAsserted ∧ StepMoves ChangesUnit execHoldWithdrawn := by
  constructor
  all_goals
    refine Moves.next (KeepsUnit.moves fun s => ?_)
    split <;> rfl

/-- HELLO_TIMER_EXPIRY (R115). -/
theorem keepsUnit_helloExpired : KeepsUnit helloExpired := fun s => by
  unfold helloExpired
  dsimp only
  split
  · split <;> rfl
  · rfl

/-- HOLD_TIMER_EXPIRY (R122). -/
theorem keepsUnit_holdExpired : KeepsUnit holdExpired := fun s => by
  unfold holdExpired
  split
  · rfl
  · exact keepsUnit_sessionLost _ s
  · rfl

/-- FRAME_DISCARDED (R111, R142). -/
theorem execFrameDiscarded_changesUnit (d : Delivery) : StepMoves ChangesUnit (execFrameDiscarded d) := by
  refine stepRelation_changesUnit.live (stepRelation_changesUnit.takeDelivery .link fun x s t ht => ?_)
  split at ht
  · obtain ⟨c, -, rfl⟩ := Option.map_eq_some_iff.1 ht
    exact .inl .refl
  · cases ht

/-- HELLO_ROLE_CONFLICT (R131). -/
theorem execHelloRoleConflict_changesUnit (session : Byte) : StepMoves ChangesUnit (execHelloRoleConflict session) := by
  have hconflict : KeepsUnit (roleConflict session) := fun s => by
    rw [roleConflict_eq]
    split <;> rfl
  refine stepRelation_changesUnit.live fun s => ?_
  split
  · refine stepRelation_changesUnit.takeDelivery .link (fun d s t ht => ?_) s
    split at ht
    · cases ht
      exact hconflict.moves s
    · cases ht
  · exact .inl .refl

/-- A WELCOME of the current attempt, by its result (R116). -/
theorem keepsUnit_welcomed (result : WelcomeResult) : KeepsUnit (welcomed result) := fun s => by
  unfold welcomed
  split
  · split <;> rfl
  · rfl
  · rfl

/-- BYE_TAKEN (R117, R128). -/
theorem execByeTaken_changesUnit (session : Byte) (reason : ByeReason) :
    StepMoves ChangesUnit (execByeTaken session reason) := by
  have hleft : KeepsUnit (peerLeft reason) := fun s => by
    unfold peerLeft
    split
    · rfl
    · exact keepsUnit_sessionLost _ s
    · rfl
  refine stepRelation_changesUnit.live fun s => ?_
  split
  · exact stepRelation_changesUnit.takeFrame _ hleft.moves s
  · exact .inl .refl

/-- An ACK in range or out of it (R124, R125). -/
theorem keepsUnit_ackArrived (n : SeqNum) : KeepsUnit (ackArrived n) := fun s => by
  unfold ackArrived
  dsimp only
  split
  · exact keepsUnit_sessionLost .protocol _
  · split
    · rfl
    · exact keepsUnit_removeAcked _ s

/-- A NAK in range or out of it (R124, R126). -/
theorem keepsUnit_nakArrived (n : SeqNum) : KeepsUnit (nakArrived n) := fun s => by
  have hremoved (d : Nat) : (if d = 0 then s else removeAcked d s).replica = s.replica := by
    split
    · rfl
    · exact keepsUnit_removeAcked d s
  unfold nakArrived
  dsimp only
  split
  · exact keepsUnit_sessionLost .protocol _
  · exact (keepsUnit_checkRetry _).trans (hremoved _)

/-- The next frame of the link unit begins (R119, R120). -/
theorem keepsUnit_sendNext : KeepsUnit sendNext := fun s => by
  have hentry (k : JTake) : (sendEntry k s).replica = s.replica := by
    unfold sendEntry
    dsimp only
    split <;> rfl
  unfold sendNext
  split
  · rfl
  · split
    · split
      · exact hentry _
      · rfl
    · rfl

/-! ### The character layer -/

/-- A received character (R139, R140). -/
theorem keepsUnit_receive (l : LineId) (c : Character) : KeepsUnit (receive l c) := fun s => by
  have happend : ∀ bs, KeepsUnit (appendByte l bs c.data) := fun bs s => by
    unfold appendByte
    split
    · exact replica_withLine ..
    · exact replica_withLine l _ s
  have hgood : KeepsUnit (goodCharacter l c) := fun s => by
    unfold goodCharacter
    split
    · simp
    · split
      · exact happend _ s
      · rfl
  unfold receive
  split
  · rfl
  · dsimp only
    split
    · exact hgood _
    · exact replica_abandonFrame ..
    · exact (replica_withLine ..).trans (replica_abandonFrame ..)

/-- The end of a transmission (R114, R123, R136, R137). -/
theorem keepsUnit_endTx (l : LineId) : KeepsUnit (endTx l) := fun s => by
  have hlink : ∀ f, KeepsUnit (linkSent f) := fun f s => by
    unfold linkSent
    split
    · unfold helloSent
      split <;> rfl
    · unfold sequencedSent
      split <;> rfl
    all_goals rfl
  have hsent : ∀ c, KeepsUnit (frameSent c) := fun c => by
    cases c with
    | link f => exact hlink f
    | response r => exact fun _ => rfl
  unfold endTx
  split
  · split
    · rfl
    · exact (hsent _ _).trans (replica_withLine ..)
  · rfl

/-- A response begun (R189). -/
theorem keepsUnit_sendResponse : KeepsUnit sendResponse := fun s => by
  unfold sendResponse
  split <;> rfl

/-! ### The replica apply unit's own commands -/

/-- HELLO_TAKEN (R150 to R154). -/
theorem execHelloTaken_changesUnit (session : Byte) (h : HelloBody) :
    StepMoves ChangesUnit (execHelloTaken session h) := by
  refine stepRelation_changesUnit.live fun s => ?_
  split
  · exact stepRelation_changesUnit.takeFrame _ (moves_of_unitRun (unitRun_helloArrived session h)) s
  · exact .inl .refl

/-- SEQUENCED_FRAME_TAKEN: the frame is placed in SESSION alone, and discarded otherwise (R150, R155). -/
theorem execSequencedFrameTaken_changesUnit (session : Byte) (n : SeqNum) (b : SeqBody) :
    StepMoves ChangesUnit (execSequencedFrameTaken session n b) := by
  have hjudged : Moves ChangesUnit (judged { session := session, body := .seq n b } (sequencedArrived n b)) := by
    intro s
    unfold judged
    split
    · exact .inl .refl
    · next htaken => exact .inl (unitRun_sequencedArrived n b (session_of_taken htaken))
  refine stepRelation_changesUnit.live (stepRelation_changesUnit.takeDelivery .link fun d s t ht => ?_)
  split at ht
  · cases ht
    exact hjudged s
  · cases ht

/-- REPLICA_BYE_TAKEN (R169). -/
theorem execReplicaByeTaken_changesUnit (session : Byte) (reason : ByeReason) :
    StepMoves ChangesUnit (execReplicaByeTaken session reason) := by
  have hleft := moves_of_unitRun (unitRun_leaveSession (dest := .listening) nofun none)
  refine stepRelation_changesUnit.live fun s => ?_
  split
  · exact stepRelation_changesUnit.takeFrame _ hleft s
  · exact .inl .refl

/-! ### The service port -/

/-- SERVICE_FRAME_REJECTED (R187, R189). -/
theorem execServiceFrameRejected_changesUnit (d : Delivery) : StepMoves ChangesUnit (execServiceFrameRejected d) := by
  have hreject (x : Delivery) (s t : State) (ht : rejectDelivery x s = some t) : ChangesUnit s t := by
    unfold rejectDelivery at ht
    split at ht
    · cases ht
      exact .inl .refl
    · split at ht
      · cases ht
      · cases ht
        exact Moves.throughSlot (act := respond _ _ _) (fun _ => .inl .refl) (fun _ _ => .inl .refl) s
  refine stepRelation_changesUnit.live (stepRelation_changesUnit.takeDelivery .service fun x s t ht => ?_)
  split at ht
  · split at ht
    · cases ht
      exact .inl .refl
    · exact hreject x s t ht
  · cases ht

/-- SERVICE_FRAME_DROPPED (R189). -/
theorem execServiceFrameDropped_changesUnit : StepMoves ChangesUnit execServiceFrameDropped := by
  refine stepRelation_changesUnit.live (stepRelation_changesUnit.takeDelivery .service fun x s t ht => ?_)
  split at ht
  · cases ht
    exact .inl .refl
  · cases ht

/-- STATUS (R192). -/
theorem keepsUnit_doStatus (group : Byte) : KeepsUnit (doStatus group) := fun s => by
  unfold doStatus
  split <;> rfl

/-- READ_PARAM (R193). -/
theorem keepsUnit_doReadParam (number : Byte) : KeepsUnit (doReadParam number) := fun s => by
  unfold doReadParam
  split <;> rfl

/-- WRITE_PARAM (R136, R193, R194). -/
theorem keepsUnit_doWriteParam (number : Byte) (value : BitVec 16) : KeepsUnit (doWriteParam number value) := fun s => by
  have hpend (p : Param) (v : Nat) (s : State) : (pendDivisor p v s).replica = s.replica := by
    cases p <;> rfl
  unfold doWriteParam
  split
  · rfl
  · split
    · rfl
    · split
      · rfl
      · exact hpend ..

/-- A changed entry of the region table (R79, R82). -/
theorem replica_changeRegion (i : Fin 32) (new : Option Region) (s : State) :
    (changeRegion i new s).replica = s.replica := by
  rw [changeRegion_eq]

/-- LOAD_REGION (R77). -/
theorem keepsUnit_doLoadRegion (index : Byte) (base count : BitVec 32) (kind policy : Byte) :
    KeepsUnit (doLoadRegion index base count kind policy) := fun s => by
  unfold doLoadRegion
  split
  · unfold loadChecked
    split
    · rfl
    · split
      · rfl
      · split
        · rfl
        · exact replica_changeRegion ..
  · rfl

/-- CLEAR_REGION (R80). -/
theorem keepsUnit_doClearRegion (index : Byte) : KeepsUnit (doClearRegion index) := fun s => by
  unfold doClearRegion
  split
  · unfold clearEntry
    split
    · rfl
    · split
      · rfl
      · exact replica_changeRegion ..
  · rfl

/-- READ_REGION (R81). -/
theorem keepsUnit_doReadRegion (index : Byte) : KeepsUnit (doReadRegion index) := fun s => by
  unfold doReadRegion
  split <;> rfl

/-- START, in either form: a replica in OFF goes to LISTENING (R43, R148, R195). -/
theorem unitRun_doStart (m : State → Mirror) (s : State) : UnitRun s.replica (doStart m s).replica := by
  unfold doStart
  split
  · exact .refl
  · next hoff =>
    split
    · exact .refl
    · split
      · have hprimary : KeepsUnit (startPrimary (m s)) := fun s => by
          rw [startPrimary, respond_frame, enterLinking_frame, State.withMirror_replica]
        exact hprimary.run s
      · next hr =>
        have hstate := (ownStateOff_replica hr).1 (by simpa using hoff)
        exact .single (.turned .listening (by simp [hstate]) nofun)

/-- STOP NOW (R48, R148). -/
theorem unitRun_doStopNow (s : State) : UnitRun s.replica (doStopNow s).replica := by
  unfold doStopNow
  split
  · exact .refl
  · split
    · exact keepsUnit_stopPrimary.run s
    · exact unitRun_stopReplica s

/-- STOP DRAIN (R49). -/
theorem keepsUnit_doStopDrain : KeepsUnit doStopDrain := fun s => by
  unfold doStopDrain
  split <;> rfl

/-- ABORT (R53, R191). -/
theorem keepsUnit_doAbort : KeepsUnit doAbort := fun s => by
  unfold doAbort
  split
  · exact keepsUnit_stopPrimary _
  · rfl
  · rfl

/-- RESYNC (R54). -/
theorem keepsUnit_doResync (scope : ResyncScope) : KeepsUnit (doResync scope) := fun s => by
  unfold doResync
  split
  · rfl
  · split
    · rfl
    · split <;> rfl

/-- READ_COUNTERS (R198). -/
theorem keepsUnit_doReadCounters (number : Byte) : KeepsUnit (doReadCounters number) := fun s => by
  unfold doReadCounters
  split <;> rfl

/-- CLEAR_COUNTERS (R198). -/
theorem keepsUnit_doClearCounters (number : Byte) : KeepsUnit (doClearCounters number) := fun s => by
  unfold doClearCounters
  split
  · rfl
  · split <;> rfl

/-- A change of role: the unit changes only where a primary takes up the replica role (R170). -/
theorem changeRole_changesUnit {role : Role} {s : State} (h : role ≠ s.role) : ChangesUnit s (changeRole role s) := by
  cases role with
  | primary => exact .inl .refl
  | replica =>
    have hr : s.role = .primary := by
      cases hs : s.role with
      | primary => rfl
      | replica => exact absurd hs.symm h
    exact .inr ⟨hr, rfl⟩

/-- SET_ROLE (R170, R200). -/
theorem doSetRole_changesUnit (role : Byte) : Moves ChangesUnit (doSetRole role) := fun s => by
  unfold doSetRole
  split
  · unfold setRoleChecked
    split
    · exact .inl .refl
    · split
      · exact .inl .refl
      · split
        · exact .inl .refl
        · next hother => exact changeRole_changesUnit hother
  · exact .inl .refl

/-- PROMOTE (R171, R201). -/
theorem unitRun_doPromote (force : Byte) (s : State) : UnitRun s.replica (doPromote force s).replica := by
  unfold doPromote
  split
  · exact .refl
  · split
    · exact .refl
    · split
      · exact .refl
      · split
        · exact .refl
        · exact unitRun_performPromote s

/-- The completion of a soft reset (R203). -/
theorem keepsUnit_completeSoftReset : KeepsUnit completeSoftReset := fun s => by
  unfold completeSoftReset
  split <;> rfl

/-- SOFT_RESET: the unit is stopped as STOP NOW stops it (R202, R203). -/
theorem unitRun_doSoftReset (s : State) : UnitRun s.replica (doSoftReset s).replica := by
  have hstop : UnitRun s.replica (softStop s).replica := by
    unfold softStop
    split
    · exact .refl
    · split
      · exact keepsUnit_stopPrimary.run s
      · exact unitRun_stopReplica s
  have hrest : (doSoftReset s).replica = (softStop s).replica :=
    calc (doSoftReset s).replica
        = (beginSoftReset s).replica := keepsUnit_completeSoftReset _
      _ = (abandonFrame .service (abandonFrame .link ((softStop s).withLink (softStop s).link.quiet))).replica := rfl
      _ = (softStop s).replica := by simp
  rwa [hrest]

/-- SOFT_RESET_COMPLETE (R203). -/
theorem execSoftResetComplete_changesUnit : StepMoves ChangesUnit execSoftResetComplete := by
  refine KeepsUnit.live fun s => ?_
  split
  · exact keepsUnit_completeSoftReset s
  · rfl
  · rfl

/-! ### Resets -/

/-- POWER_ON_RESET and BOARD_RESET_ASSERT: the values after reset, the second with the marker and the consistency kept
(R172). -/
theorem execReset_changesUnit :
    StepMoves ChangesUnit execPowerOnReset ∧ StepMoves ChangesUnit execBoardResetAssert := by
  constructor
  · intro s t ht
    cases ht
    have hreset : UnitRun s.replica Replica.reset := .single (.reset Marker.reset .unknown)
    exact .inl hreset
  · refine Moves.next (moves_of_unitRun fun s => ?_)
    split
    · exact .single (.reset s.replica.marker s.replica.consistency)
    · exact .refl

/-- The ends of the two resets (R104, R199). -/
theorem execResetEnd_changesUnit (strapHigh : Bool) :
    StepMoves ChangesUnit (execBoardResetRelease strapHigh) ∧ StepMoves ChangesUnit (execPowerOnResetEnd strapHigh) := by
  constructor
  all_goals
    refine Moves.next (KeepsUnit.moves fun s => ?_)
    split <;> rfl

/-! ### Every command -/

/-- What every command can do to the replica apply unit. -/
theorem exec_changesUnit (c : Instr) : StepMoves ChangesUnit (exec c) := by
  have hR := stepRelation_changesUnit
  cases c with
  | powerOnReset => exact execReset_changesUnit.1
  | boardResetAssert => exact execReset_changesUnit.2
  | boardResetRelease strapHigh => exact (execResetEnd_changesUnit strapHigh).1
  | hostRequestTake presented => exact execHostRequestTake_changesUnit presented
  | memorySideGrant => exact keepsUnit_arbitrate.live
  | memoryResponse source tag status data => exact execMemoryResponse_changesUnit source tag status data
  | hostResponsePassBack => exact keepsUnit_passBack.live
  | sweepPick => exact KeepsUnit.liveWhen (f := fun s => s.withMirror s.mirror.pick) (fun _ => rfl) _
  | chunkReadIssue => exact execChunkReadIssue_changesUnit
  | doneEntryAppend => exact KeepsUnit.liveWhen (f := appendDone) (fun _ => rfl) _
  | drainNormalEnd => exact KeepsUnit.liveWhen (f := endDrainNormally) keepsUnit_stopPrimary _
  | holdAsserted => exact execHold_changesUnit.1
  | holdWithdrawn => exact execHold_changesUnit.2
  | helloTimerExpiry => exact keepsUnit_helloExpired.liveWhen _
  | ackTimerExpiry => exact KeepsUnit.liveWhen (f := ackExpired) (fun _ => keepsUnit_checkRetry _) _
  | holdTimerExpiry => exact keepsUnit_holdExpired.liveWhen _
  | relinkTimerExpiry => exact KeepsUnit.liveWhen (f := fun s => enterLinking (bump .relinkAttempts s)) (fun _ => rfl) _
  | drainTimerExpiry =>
    exact KeepsUnit.liveWhen (f := fun s => endDrain .timeout [] (stopPrimary s)) keepsUnit_stopPrimary _
  | characterReceived line ch => exact (keepsUnit_receive line ch).live
  | frameDiscarded d => exact execFrameDiscarded_changesUnit d
  | helloRoleConflict session => exact execHelloRoleConflict_changesUnit session
  | welcomeTaken session result => exact (keepsUnit_welcomed result).takeFrame _
  | byeTaken session reason => exact execByeTaken_changesUnit session reason
  | ackTaken session n => exact (keepsUnit_ackArrived n).takeFrame _
  | nakTaken session n => exact (keepsUnit_nakArrived n).takeFrame _
  | helloTaken session hello => exact execHelloTaken_changesUnit session hello
  | sequencedFrameTaken session n body => exact execSequencedFrameTaken_changesUnit session n body
  | replicaByeTaken session reason => exact execReplicaByeTaken_changesUnit session reason
  | applyFrameStart => exact hR.live (moves_of_unitRun unitRun_startNext)
  | welcomeAcceptSend => exact hR.live (hR.when (moves_of_unitRun unitRun_acceptSend) _)
  | linkFrameTransmitStart => exact keepsUnit_sendNext.liveWhen _
  | replyFrameTransmitStart => exact hR.live (hR.when (moves_of_unitRun unitRun_sendReply) _)
  | responseTransmitStart => exact keepsUnit_sendResponse.live
  | transmissionEnd line => exact (keepsUnit_endTx line).live
  | divisorTakeEffect line half => exact KeepsUnit.live fun _ => replica_withLine ..
  | serviceFrameRejected d => exact execServiceFrameRejected_changesUnit d
  | serviceFrameDropped => exact execServiceFrameDropped_changesUnit
  | status group => exact (keepsUnit_doStatus group).serve _ _
  | readParam number => exact (keepsUnit_doReadParam number).serve _ _
  | writeParam number value => exact (keepsUnit_doWriteParam number value).serve _ _
  | loadRegion index base count kind policy => exact (keepsUnit_doLoadRegion index base count kind policy).serve _ _
  | clearRegion index => exact (keepsUnit_doClearRegion index).serve _ _
  | readRegion index => exact (keepsUnit_doReadRegion index).serve _ _
  | startFull => exact serve_changesUnit _ _ (moves_of_unitRun (unitRun_doStart fullStart))
  | startClean => exact serve_changesUnit _ _ (moves_of_unitRun (unitRun_doStart cleanStart))
  | stopNow => exact serve_changesUnit _ _ (moves_of_unitRun unitRun_doStopNow)
  | stopDrain => exact keepsUnit_doStopDrain.serve _ _
  | abort => exact hR.takeCommand _ (hR.withPlace keepsUnit_doAbort.moves)
  | resync scope => exact (keepsUnit_doResync scope).serve _ _
  | readException => exact KeepsUnit.serve _ _ (act := doReadException) fun _ => rfl
  | clearOverflow => exact KeepsUnit.serve _ _ (act := doClearOverflow) fun _ => rfl
  | readAlerts => exact KeepsUnit.serve _ _ (act := doReadAlerts) fun _ => rfl
  | ackAlerts causes => exact KeepsUnit.serve _ _ (act := doAckAlerts causes) fun _ => rfl
  | setAlertMask causes => exact KeepsUnit.serve _ _ (act := doSetAlertMask causes) fun _ => rfl
  | readMarker => exact KeepsUnit.serve _ _ (act := doReadMarker) fun _ => rfl
  | readCounters number => exact (keepsUnit_doReadCounters number).serve _ _
  | clearCounters number => exact (keepsUnit_doClearCounters number).serve _ _
  | setRole role => exact serve_changesUnit _ _ (doSetRole_changesUnit role)
  | promote force => exact serve_changesUnit _ _ (moves_of_unitRun (unitRun_doPromote force))
  | softReset => exact serve_changesUnit _ _ (moves_of_unitRun unitRun_doSoftReset)
  | softResetComplete => exact execSoftResetComplete_changesUnit
  | lineSampledHigh line => exact KeepsUnit.live fun _ => replica_withLine ..
  | characterBoundary => exact KeepsUnit.live fun _ => rfl
  | powerOnResetEnd strapHigh => exact (execResetEnd_changesUnit strapHigh).2

/-- What every step can do to the replica apply unit. -/
theorem step_changesUnit : StepMoves ChangesUnit step := by
  intro s t ht
  unfold step at ht
  split at ht
  · cases ht
    exact .inl .refl
  · next c rest _ => exact exec_changesUnit c { s with pending := rest } t ht

/-! ### The invariants -/

/-- Events one after the other keep the unit in order. -/
theorem UnitOk.run {r q : Replica} (h : UnitOk r) (hrq : UnitRun r q) : UnitOk q := by
  induction hrq with
  | refl => exact h
  | tail _ hlast ih => exact ih.event hlast

/-- Events one after the other keep the reply list in order (R165). -/
theorem ReplyListOk.run {r q : Replica} (h : ReplyListOk r.replies) (hrq : UnitRun r q) : ReplyListOk q.replies := by
  induction hrq with
  | refl => exact h
  | tail _ hlast ih => exact ih.event hlast

/-- Settles O55: the events of a step keep the unit in order; a primary that takes up the replica role has its unit in OFF, so
that no frame is queued for which HOLD would be asserted. -/
theorem stepsKeepTheApplyQueue : Obligations.StepsKeepTheApplyQueue := by
  rintro s t ⟨⟨-, hoff, -⟩, -⟩ hs ht
  rw [replicaOk_iff] at hs ⊢
  rcases step_changesUnit s t ht with hrun | ⟨hr, heq⟩
  · exact hs.run hrun
  · have hstate : s.replica.state ≠ .session := by simp [hoff hr]
    obtain ⟨queue, session, pending, follows, clean, window, expected, count, outstanding, due, -⟩ := hs.outside hstate
    rw [heq]
    exact unitOk_outside hstate
      ⟨queue, session, pending, follows, clean, window, expected, count, outstanding, due, rfl⟩ hs.writes

/-- Settles O56: the events of a step keep the reply list in order, and a change of role leaves it as it is. -/
theorem stepsKeepTheReplyList : Obligations.StepsKeepTheReplyList := by
  intro s t hs ht
  rw [repliesOk_iff] at hs ⊢
  rcases step_changesUnit s t ht with hrun | ⟨-, heq⟩
  · exact hs.run hrun
  · rw [heq]
    exact hs

end Sys2Proof.Proofs
end

section
/-! PROOFS. The commands that clear: what READ_EXCEPTION puts into its body, and what each command leaves of the exception
list, the alert unit and the counters (R178, R179, R182, R183, R188, R197, R198). -/
namespace Sys2Proof.Proofs

open Sys2Proof.Machine Sys2Proof.Safety

/-! ### The body of READ_EXCEPTION -/

/-- Without a record every field but the overflow flag holds 0 (R178, R188). -/
theorem exceptionBody_empty {s : State} (h : s.exceptions.records = []) :
    exceptionBody s = List.replicate 13 0 ++ [if s.exceptions.overflow then 1 else 0] := by
  rw [exceptionBody, h]
  rfl

/-- The oldest record with the number of records behind it (R178, R197). -/
theorem exceptionBody_cons {s : State} {q : ExceptionRecord} {rest : List ExceptionRecord}
    (h : s.exceptions.records = q :: rest) : exceptionBody s =
      1 :: recordBytes q ++ [BitVec.ofNat 8 rest.length, if s.exceptions.overflow then 1 else 0] := by
  simp [exceptionBody, h, optBytes, flagByte, beBytes_one]

/-! ### What each clearing command leaves -/

/-- READ_EXCEPTION (R178). -/
theorem doReadException_eq (s : State) : doReadException s = answered 139 .ok (exceptionBody s)
    { s with exceptions := { s.exceptions with records := s.exceptions.records.drop 1 } } := by
  rw [doReadException, List.drop_one]
  rfl

/-- CLEAR_COUNTERS of a counter's number (R198). -/
theorem doClearCounters_one {n : Byte} (s : State) (h : n.toNat < 29) :
    doClearCounters n s = answered 146 .ok [] { s with counters := s.counters.set n.toNat 0 } :=
  dif_pos h

/-- CLEAR_COUNTERS with 255 (R198). -/
theorem doClearCounters_all (s : State) :
    doClearCounters 255 s = answered 146 .ok [] { s with counters := Vector.replicate 29 0 } := rfl

/-- CLEAR_COUNTERS of a number out of range (R198). -/
theorem doClearCounters_range {n : Byte} (s : State) (h : 29 ≤ n.toNat) (hall : n ≠ 255) :
    doClearCounters n s = answered 146 .range [] s :=
  (dif_neg (Nat.not_lt.2 h)).trans (if_neg hall)

/-- Settles O46: each clearing command is carried out, and its effect is what it clears and the response. -/
theorem clearingCommandsClearWhatTheyName : Obligations.ClearingCommandsClearWhatTheyName := by
  intro s d hs
  refine ⟨fun hd => exec_carriedOut hs hd (doReadException_eq s) rfl,
    exceptionBody_empty,
    fun q rest => exceptionBody_cons,
    fun hd => exec_carriedOut (act := doClearOverflow) hs hd rfl rfl,
    fun causes hd => exec_carriedOut (act := doAckAlerts causes) hs hd rfl rfl,
    fun causes hd => exec_carriedOut (act := doSetAlertMask causes) hs hd rfl rfl,
    fun n hn hd => exec_carriedOut hs hd (doClearCounters_one s hn) rfl,
    fun hd => exec_carriedOut hs hd (doClearCounters_all s) rfl,
    fun n hd hn hall => exec_carriedOut hs hd (doClearCounters_range s hn hall) rfl⟩

end Sys2Proof.Proofs
end

section
/-! PROOFS. A report to the exception list: the four cases of R176, what they do to the list alone, and that the list stays
within its bounds (R174, R176, R179). -/
namespace Sys2Proof.Proofs

open Sys2Proof.Machine Sys2Proof.Safety

/-! ### The four cases -/

/-- Exceptions agree by kind, source and region (R176). -/
theorem sameException_iff (r q : ExceptionRecord) :
    sameException r q = true ↔ r.kind = q.kind ∧ r.source = q.source ∧ r.region = q.region := by
  simp [sameException, and_assoc]

section
variable {s : State} (kind : ExceptionKind) (source : Option Byte) (a : LineAddr) (i : Option (Fin 32))

/-- While the overflow flag is set the exception is lost (R176, first case). -/
theorem report_lost (h : s.exceptions.overflow = true) : report kind source a i s =
    { s with exceptions := { s.exceptions with lost := min 65535 (s.exceptions.lost + 1) } } :=
  if_pos h

/-- An exception that agrees with the newest record is counted there (R176, second case). -/
theorem report_counted (h : s.exceptions.overflow = false) {front : List ExceptionRecord} {q : ExceptionRecord}
    (hq : s.exceptions.records = front ++ [q]) (hsame : q.kind = kind ∧ q.source = source ∧ q.region = i) :
    report kind source a i s = { s with exceptions := { s.exceptions with
      records := front ++ [{ q with count := min 255 (q.count + 1) }] } } := by
  have hagree : sameException q { kind, source, addr := a, region := i, count := 1 } = true :=
    (sameException_iff ..).2 hsame
  simp only [report, h, hq, List.getLast?_concat, List.dropLast_concat, hagree, if_true]
  rfl

/-- Any other exception asks for a record of its own (R176, third and fourth case). -/
theorem report_other (h : s.exceptions.overflow = false)
    (hother : ∀ (front : List ExceptionRecord) (q : ExceptionRecord), s.exceptions.records = front ++ [q] →
      ¬(q.kind = kind ∧ q.source = source ∧ q.region = i)) :
    report kind source a i s = addRecord { kind, source, addr := a, region := i, count := 1 } s := by
  rcases List.eq_nil_or_concat s.exceptions.records with hnil | ⟨front, q, hq⟩
  · simp [report, h, hnil]
  · rw [List.concat_eq_append] at hq
    have hdiffers : sameException q { kind, source, addr := a, region := i, count := 1 } = false :=
      Bool.eq_false_iff.2 fun hsame => hother front q hq ((sameException_iff ..).1 hsame)
    simp [report, h, hq, hdiffers]

end

/-- With a place free the record joins the list (R176, third case). -/
theorem addRecord_room {s : State} (h : s.exceptions.records.length < 16) (r : ExceptionRecord) :
    addRecord r s = alerted .exception
      { s with exceptions := { s.exceptions with records := s.exceptions.records ++ [r] } } :=
  if_pos h

/-- Without one the list overflows (R176, fourth case). -/
theorem addRecord_full {s : State} (h : 16 ≤ s.exceptions.records.length) (r : ExceptionRecord) :
    addRecord r s = alerted .listOverflow
      { s with exceptions := { s.exceptions with overflow := true, lost := min 65535 (s.exceptions.lost + 1) } } :=
  if_neg (Nat.not_lt.2 h)

/-! ### The list alone -/

/-- What one step can do to the exception list (R176, R178, R179, R180). -/
inductive ListChange (x : ExceptionList) : ExceptionList → Prop where
  | same : ListChange x x
  | lost : ListChange x { x with overflow := true, lost := min 65535 (x.lost + 1) }
  | counted (front : List ExceptionRecord) (q : ExceptionRecord) (hq : x.records = front ++ [q]) :
      ListChange x { x with records := front ++ [{ q with count := min 255 (q.count + 1) }] }
  | added (r : ExceptionRecord) (hcount : r.count = 1) (hroom : x.records.length < 16) :
      ListChange x { x with records := x.records ++ [r] }
  | read : ListChange x { x with records := x.records.tail }
  | cleared : ListChange x { x with overflow := false, lost := 0 }
  | reset : ListChange x ExceptionList.reset

/-- A report comes to one of the changes, by the case of R176 that it falls under. -/
theorem listChange_report (kind : ExceptionKind) (source : Option Byte) (a : LineAddr) (i : Option (Fin 32)) (s : State) :
    ListChange s.exceptions (report kind source a i s).exceptions := by
  cases hflag : s.exceptions.overflow with
  | true =>
    simpa [report_lost kind source a i hflag, hflag] using ListChange.lost (x := s.exceptions)
  | false =>
    by_cases hsame : ∃ front q,
        s.exceptions.records = front ++ [q] ∧ q.kind = kind ∧ q.source = source ∧ q.region = i
    · obtain ⟨front, q, hq, hagree⟩ := hsame
      rw [report_counted kind source a i hflag hq hagree]
      exact .counted front q hq
    · rw [report_other kind source a i hflag fun front q hq hagree => hsame ⟨front, q, hq, hagree⟩]
      by_cases hroom : s.exceptions.records.length < 16
      · rw [addRecord_room hroom]
        exact .added _ rfl hroom
      · rw [addRecord_full (Nat.le_of_not_lt hroom)]
        exact .lost

/-- No change takes the list past its 16 records (R174). -/
theorem ListChange.length_le {x y : ExceptionList} (hxy : ListChange x y) (h : x.records.length ≤ 16) :
    y.records.length ≤ 16 := by
  cases hxy with
  | counted front q hq =>
    rw [hq] at h
    simpa only [List.length_append, List.length_singleton] using h
  | added r _ hroom =>
    rw [List.length_append, List.length_singleton]
    exact hroom
  | read => exact Nat.le_trans (List.tail_sublist _).length_le h
  | reset => exact Nat.zero_le 16
  | same | lost | cleared => exact h

/-- Settles O50: a lost exception, one counted with the newest record, and one of its own with and without a place. -/
theorem reportedExceptionsFollowTheCases : Obligations.ReportedExceptionsFollowTheCases := by
  intro s kind source a i
  refine ⟨report_lost kind source a i, fun hflag => ⟨fun front q hq hkind hsource hregion =>
      report_counted kind source a i hflag hq ⟨hkind, hsource, hregion⟩, fun hother => ?_⟩,
    (listChange_report kind source a i s).length_le⟩
  rw [report_other kind source a i hflag hother]
  exact ⟨fun hroom => addRecord_room hroom _, fun hfull => addRecord_full hfull _⟩

/-! ### The bounds of the list -/

/-- A list within its bounds, whose lost count is above 0 exactly while the overflow flag is set (R174, R176, R179). -/
structure ListOk (x : ExceptionList) : Prop where
  room : x.records.length ≤ 16
  flag : x.overflow = true ↔ 0 < x.lost
  lost : x.lost ≤ 65535
  counts : ∀ r ∈ x.records, 1 ≤ r.count ∧ r.count ≤ 255

/-- The invariant speaks of the list alone. -/
theorem exceptionsOk_iff (s : State) : ExceptionsOk s ↔ ListOk s.exceptions :=
  ⟨fun ⟨room, flag, lost, counts⟩ => ⟨room, flag, lost, counts⟩, fun h => ⟨h.room, h.flag, h.lost, h.counts⟩⟩

/-- Every change keeps the list within its bounds. -/
theorem ListOk.changed {x y : ExceptionList} (h : ListOk x) (hxy : ListChange x y) : ListOk y := by
  have hroom := hxy.length_le h.room
  cases hxy with
  | same => exact h
  | lost => exact ⟨hroom, iff_of_true rfl (Nat.lt_min.2 ⟨by decide, Nat.succ_pos _⟩), Nat.min_le_left .., h.counts⟩
  | counted front q hq =>
    have hcounts : ∀ r ∈ front ++ [q], 1 ≤ r.count ∧ r.count ≤ 255 := hq ▸ h.counts
    refine ⟨hroom, h.flag, h.lost, fun r hr => ?_⟩
    rcases List.mem_append.1 hr with hfront | hlast
    · exact hcounts r (List.mem_append_left _ hfront)
    · rw [List.mem_singleton.1 hlast]
      exact ⟨Nat.le_min.2 ⟨by decide, Nat.le_add_left ..⟩, Nat.min_le_left ..⟩
  | added r hcount _ =>
    refine ⟨hroom, h.flag, h.lost, fun q hq => ?_⟩
    rcases List.mem_append.1 hq with hold | hnew
    · exact h.counts q hold
    · rw [List.mem_singleton.1 hnew, hcount]
      decide
  | read => exact ⟨hroom, h.flag, h.lost, fun r hr => h.counts r (List.mem_of_mem_tail hr)⟩
  | cleared => exact ⟨hroom, iff_of_false nofun (Nat.lt_irrefl 0), Nat.zero_le _, h.counts⟩
  | reset => exact (exceptionsOk_iff _).1 exceptionsOk_reset

end Sys2Proof.Proofs
end

section
/-! PROOFS. What every command does to the exception list: takes, captures, chunk reads and apply writes report to it (R32,
R41, R75, R168), READ_EXCEPTION and CLEAR_OVERFLOW take from it, power-on reset empties it, and everything else leaves it as it
is; and so every step keeps it within its bounds (R174, R176, R178, R179, R180). -/
namespace Sys2Proof.Proofs

open Sys2Proof.Machine Sys2Proof.Safety

/-- A step makes one change to the list, if any. -/
def ChangesList (s t : State) : Prop :=
  ListChange s.exceptions t.exceptions

/-- An effect that leaves the list as it is. -/
abbrev KeepsList (f : State → State) : Prop :=
  ∀ s : State, (f s).exceptions = s.exceptions

/-- The list left as it was. -/
theorem ChangesList.of_exceptions {s t : State} (h : t.exceptions = s.exceptions) : ChangesList s t := by
  rw [ChangesList, h]
  exact .same

/-- An effect that leaves the list as it is makes no change to it. -/
theorem KeepsList.moves {f : State → State} (h : KeepsList f) : Moves ChangesList f :=
  fun s => .of_exceptions (h s)

/-- A line replaced (R142). -/
@[simp] theorem keepsList_withLine (l : LineId) (x : Line) : KeepsList (withLine l x) := fun s => by
  cases l <;> rfl

/-- A counter raised (R198). -/
@[simp] theorem keepsList_bump (c : Counter) : KeepsList (bump c) := fun _ => rfl

/-- The list is kept by lines and counters. -/
theorem stepRelation_changesList : StepRelation ChangesList where
  refl _ := .same
  line l x s t h := by rwa [ChangesList, keepsList_withLine] at h
  bump _ _ := .same

/-- A step of the running part that keeps the list (R104). -/
theorem KeepsList.live {f : State → State} (h : KeepsList f) : StepMoves ChangesList (Machine.live f) :=
  stepRelation_changesList.live h.moves

/-- A step of the running part that keeps the list, under a condition (R104). -/
theorem KeepsList.liveWhen {f : State → State} (h : KeepsList f) (c : State → Prop) [∀ s, Decidable (c s)] :
    StepMoves ChangesList (Machine.live (fun s => if c s then f s else s)) :=
  stepRelation_changesList.live (stepRelation_changesList.when h.moves c)

/-- A frame taken that keeps the list, whatever the role (R111, R142). -/
theorem KeepsList.takeFrame (f : LinkFrame) {act : State → State} (h : KeepsList act) :
    StepMoves ChangesList (Machine.live (Machine.takeFrame f act)) :=
  stepRelation_changesList.live (stepRelation_changesList.takeFrame f h.moves)

/-- A command served by the port and the slot (R189, R190). -/
theorem serve_changesList (c : Instr) (code : Nat) {act : State → State} (h : Moves ChangesList act) :
    StepMoves ChangesList (serve c code act) :=
  stepRelation_changesList.serve c h fun _ _ => .same

/-- A command whose effect keeps the list. -/
theorem KeepsList.serve (c : Instr) (code : Nat) {act : State → State} (h : KeepsList act) :
    StepMoves ChangesList (serve c code act) :=
  serve_changesList c code h.moves

/-! ### The operations that report -/

/-- A head of intake taken: BAD_SOURCE, GUARD_REFUSED or REPLICA_REFUSED is reported, or nothing (R75, R91). -/
theorem takeInto_changesList (t : Fin 64) (req : HostRequest) : Moves ChangesList (takeInto t req) := fun s => by
  have hrefused (c : ReqClass) (s : State) : ChangesList s (reportRefusal req c s) := by
    cases c with
    | guard i => exact listChange_report ..
    | mirror i p => exact listChange_report ..
    | pass => exact .same
    | signal i => exact .same
  unfold takeInto
  dsimp only
  split
  · exact listChange_report _ _ _ _ (refuseTake ..)
  · split
    · exact hrefused _ (refuseTake ..)
    · split <;> exact .same

/-- The head of intake taken if it can be (R90). -/
theorem takeHead_changesList : Moves ChangesList takeHead := fun s => by
  unfold takeHead
  split
  · next req rest t _ _ =>
    split
    · exact .same
    · exact takeInto_changesList t req (s.withPath { s.path with intake := rest })
  · exact .same

/-- HOST_REQUEST_TAKE (R90, R91, R104). -/
theorem execHostRequestTake_changesList (presented : Option HostRequest) :
    StepMoves ChangesList (execHostRequestTake presented) := by
  refine Moves.next fun s => ?_
  split
  · exact takeHead_changesList (s.withPath (s.path.present presented))
  · exact .same

/-- The capture of a mirror write (R30, R31). -/
theorem captureMirror_exceptions (t : Fin 64) (e : TrackEntry) (i : Fin 32) (p : Policy) (s : State) :
    (captureMirror t e i p s).state.exceptions = s.exceptions := by
  have hstreaming : (captureStreaming t e i p s).state.exceptions = s.exceptions := by
    unfold captureStreaming
    split <;> split <;> rfl
  cases hm : s.mirror.state <;> simp only [captureMirror, hm]
  case streaming | catchup => exact hstreaming
  all_goals rfl

/-- The capture of a signal write: a malformed one is reported (R32). -/
theorem captureSignal_changesList (t : Fin 64) (e : TrackEntry) (i : Fin 32) (s : State) :
    ChangesList s (captureSignal t e i s).state := by
  have hmark : (captureMark t e i s).state.exceptions = s.exceptions := by
    unfold captureMark
    split <;> rfl
  unfold captureSignal
  split
  · cases hm : s.mirror.state
    case streaming | catchup => exact .of_exceptions hmark
    all_goals exact .same
  · exact listChange_report ..

/-- The forward event of a host request (R96). -/
theorem forward_changesList (t : Fin 64) (ts : List (Fin 64)) (e : TrackEntry) : Moves ChangesList (forward t ts e) := by
  have hcapture (s : State) : ChangesList s (captureWrite t e s).state := by
    unfold captureWrite
    split
    · exact .of_exceptions (captureMirror_exceptions ..)
    · exact captureSignal_changesList ..
    · exact .same
  intro s
  have hpledge : (givePledge e s).exceptions = s.exceptions := by
    unfold givePledge
    split <;> rfl
  unfold forward
  split
  · exact .same
  · have h := hcapture (givePledge e s)
    rwa [ChangesList, hpledge] at h

/-- The arbiter's choice (R95). -/
theorem arbitrate_changesList : Moves ChangesList arbitrate := fun s => by
  have hhost (t : Fin 64) (ts : List (Fin 64)) : ChangesList s (grantHost t ts s) := by
    unfold grantHost
    split
    · exact forward_changesList ..
    all_goals exact .same
  have hown (u : Fin 8) (us : List (Fin 8)) : ChangesList s (grantOwn u us s) := by
    unfold grantOwn
    split <;> exact .same
  unfold arbitrate
  split
  · exact .same
  · exact hhost ..
  · exact hown ..
  · split
    · exact hown ..
    · exact hhost ..

/-- The PAGE entry of a chunk appended, and the sweep advanced (R11, R39, R40). -/
theorem keepsList_completeChunk (r : Reservation) : KeepsList (completeChunk r) := fun s => by
  have hend : ∀ c, KeepsList (endCopy c) := fun c s => by
    unfold endCopy
    split <;> rfl
  unfold completeChunk
  dsimp only
  split
  · split
    · exact hend ..
    · rfl
  · rfl

/-- A line read of a chunk answered: SWEEP_READ_FAULT is reported if one of the four failed (R8, R39, R41, R101). -/
theorem sweepAnswered_changesList (line : Fin 4) (st : MemStatus) (data : List Byte) :
    Moves ChangesList (sweepAnswered line st data) := fun s => by
  have hend (r : Reservation) : ChangesList s (endChunk r s) := by
    unfold endChunk
    split
    · exact .same
    · split
      · exact listChange_report _ _ _ _ (bump .pagesSkipped ((dropReservation s).withMirror _))
      · exact (keepsList_completeChunk r).moves s
  unfold sweepAnswered
  split
  · exact .same
  · dsimp only
    split
    · exact .same
    · exact hend _

/-- What a retirement does to the unit and the alerts (R163, R164). -/
theorem keepsList_retire (f : QueuedFrame) (rest : List QueuedFrame) : KeepsList (retire f rest) := fun s => by
  rw [retire_frame]

/-- An apply fault is reported (R168). -/
theorem applyFault_changesList (a : LineAddr) (i : Option (Fin 32)) : Moves ChangesList (applyFault a i) := fun s => by
  have hreport := listChange_report .applyFault none a i (s.withReplica { s.replica with consistency := .broken })
  unfold applyFault
  dsimp only
  split <;> exact hreport

/-- An apply write answered (R162, R168). -/
theorem applyAnswered_changesList (a : LineAddr) (st : MemStatus) : Moves ChangesList (applyAnswered a st) := fun s => by
  have hstarted : KeepsList retireStarted := fun s => by
    unfold retireStarted
    split
    · split
      · exact keepsList_retire ..
      · rfl
    · rfl
  unfold applyAnswered
  split
  · exact .same
  · dsimp only
    split
    · split
      · exact applyFault_changesList _ _ (s.withReplica { s.replica with applying := none })
      · exact hstarted.moves (s.withReplica { s.replica with applying := none })
    · exact .same

/-- A response with source 255 (R97, R101, R103). -/
theorem matchOwn_changesList (tag : Fin 64) (st : MemStatus) (data : List Byte) :
    Moves ChangesList (matchOwn tag st data) := fun s => by
  unfold matchOwn
  split
  · exact .same
  · next t _ =>
    split
    · next r _ =>
      unfold ownAnswered
      split
      · exact sweepAnswered_changesList _ st data (s.withPath (s.path.freeOwn t))
      · exact applyAnswered_changesList r.addr st (s.withPath (s.path.freeOwn t))
    all_goals exact .same

/-! ### The memory path -/

/-- A response with a host source (R97, R98, R99, R103). -/
theorem keepsList_matchHost (source : Byte) (t : Fin 64) (st : MemStatus) (data : List Byte) :
    KeepsList (matchHost source t st data) := fun s => by
  have htell (e : TrackEntry) : KeepsList (tellJournal t e st) := fun s => by
    unfold tellJournal
    split <;> rfl
  have hdecide (rule : CompletionRule) : KeepsList (decideWrite t rule st) := fun s => by
    unfold decideWrite
    split <;> rfl
  have hanswered (e : TrackEntry) : KeepsList (hostAnswered t e st data) := fun s => by
    unfold hostAnswered
    split
    · rfl
    · exact (hdecide ..).trans (htell ..)
  unfold matchHost
  split
  · split
    · exact hanswered ..
    · rfl
  · split <;> rfl
  · rfl

/-- MEMORY_RESPONSE (R97, R104). -/
theorem execMemoryResponse_changesList (source : Byte) (tag : Fin 64) (st : MemStatus) (data : List Byte) :
    StepMoves ChangesList (execMemoryResponse source tag st data) := by
  refine Moves.next fun s => ?_
  split
  · exact matchOwn_changesList tag st data s
  · exact (keepsList_matchHost source tag st data).moves s

/-- The oldest response passed back (R102). -/
theorem keepsList_passBack : KeepsList passBack := fun s => by
  unfold passBack
  repeat' split
  all_goals rfl

/-- CHUNK_READ_ISSUE (R38). -/
theorem execChunkReadIssue_changesList : StepMoves ChangesList execChunkReadIssue := by
  refine KeepsList.live fun s => ?_
  unfold issueChunk
  repeat' split
  all_goals rfl

/-! ### The link unit -/

/-- STOP NOW in the primary role (R48). -/
@[simp] theorem keepsList_stopPrimary : KeepsList stopPrimary := fun s => by
  rw [stopPrimary_frame]

/-- A session lost in UP (R46, R47, R52). -/
@[simp] theorem keepsList_sessionLost (cause : LossCause) : KeepsList (sessionLost cause) := fun s => by
  rcases sessionLost_cases cause s with ⟨-, h⟩ | ⟨-, h⟩ | ⟨-, h⟩
  · rw [h, convert_frame]; rfl
  · rw [h, stopMirror_frame]; rfl
  · rw [h]; rfl

/-- The retry counter compared with its limit (R127). -/
@[simp] theorem keepsList_checkRetry : KeepsList checkRetry := fun s => by
  unfold checkRetry
  split
  · simp
  · rfl

/-- The oldest entries removed on an acknowledgement (R21, R62). -/
@[simp] theorem keepsList_removeAcked (d : Nat) : KeepsList (removeAcked d) := fun s => by
  rw [removeAcked_eq]; rfl

/-- The level at the HOLD connection (R121 to R123, R138). -/
theorem execHold_changesList : StepMoves ChangesList execHoldAsserted ∧ StepMoves ChangesList execHoldWithdrawn := by
  constructor
  all_goals
    refine Moves.next (KeepsList.moves fun s => ?_)
    split <;> rfl

/-- HELLO_TIMER_EXPIRY (R115). -/
theorem keepsList_helloExpired : KeepsList helloExpired := fun s => by
  unfold helloExpired
  repeat' split
  all_goals rfl

/-- HOLD_TIMER_EXPIRY (R122). -/
theorem keepsList_holdExpired : KeepsList holdExpired := fun s => by
  unfold holdExpired
  split
  case h_2 => simp
  all_goals rfl

/-- FRAME_DISCARDED (R111, R142). -/
theorem execFrameDiscarded_changesList (d : Delivery) : StepMoves ChangesList (execFrameDiscarded d) := by
  refine stepRelation_changesList.live (stepRelation_changesList.takeDelivery .link fun x s t ht => ?_)
  split at ht
  · obtain ⟨c, -, rfl⟩ := Option.map_eq_some_iff.1 ht
    exact .same
  · cases ht

/-- HELLO_ROLE_CONFLICT (R131). -/
theorem execHelloRoleConflict_changesList (session : Byte) : StepMoves ChangesList (execHelloRoleConflict session) := by
  have hconflict : KeepsList (roleConflict session) := fun s => by
    rw [roleConflict_eq]
    split <;> rfl
  refine stepRelation_changesList.live fun s => ?_
  split
  · refine stepRelation_changesList.takeDelivery .link (fun d s t ht => ?_) s
    split at ht
    · cases ht
      exact hconflict.moves s
    · cases ht
  · exact .same

/-- A WELCOME of the current attempt, by its result (R116). -/
theorem keepsList_welcomed (result : WelcomeResult) : KeepsList (welcomed result) := fun s => by
  unfold welcomed
  repeat' split
  all_goals rfl

/-- BYE_TAKEN (R117, R128). -/
theorem execByeTaken_changesList (session : Byte) (reason : ByeReason) :
    StepMoves ChangesList (execByeTaken session reason) := by
  have hleft : KeepsList (peerLeft reason) := fun s => by
    unfold peerLeft
    split
    case h_2 => simp
    all_goals rfl
  refine stepRelation_changesList.live fun s => ?_
  split
  · exact stepRelation_changesList.takeFrame _ hleft.moves s
  · exact .same

/-- An ACK in range or out of it (R124, R125). -/
theorem keepsList_ackArrived (n : SeqNum) : KeepsList (ackArrived n) := fun s => by
  unfold ackArrived protocolLoss
  dsimp only
  split
  · simp
  · split <;> simp

/-- A NAK in range or out of it (R124, R126). -/
theorem keepsList_nakArrived (n : SeqNum) : KeepsList (nakArrived n) := fun s => by
  unfold nakArrived protocolLoss
  dsimp only
  split
  · simp
  · split <;> simp

/-- The next frame of the link unit begins (R119, R120). -/
theorem keepsList_sendNext : KeepsList sendNext := fun s => by
  unfold sendNext sendEntry
  repeat' split
  all_goals rfl

/-! ### The character layer -/

/-- A frame under collection abandoned (R140). -/
@[simp] theorem keepsList_abandonFrame (l : LineId) : KeepsList (abandonFrame l) := fun s => by
  unfold abandonFrame
  split <;> exact keepsList_withLine ..

/-- A received character (R139, R140). -/
theorem keepsList_receive (l : LineId) (c : Character) : KeepsList (receive l c) := fun s => by
  have happend (bs : List Byte) : KeepsList (appendByte l bs c.data) := fun s => by
    unfold appendByte
    split <;> simp
  have hgood : KeepsList (goodCharacter l c) := fun s => by
    unfold goodCharacter
    split
    · simp
    · split <;> simp [happend]
  unfold receive
  dsimp only
  split
  · rfl
  · split <;> simp [hgood]

/-- The end of a transmission (R114, R123, R136, R137). -/
theorem keepsList_endTx (l : LineId) : KeepsList (endTx l) := fun s => by
  have hlink (f : LinkFrame) : KeepsList (linkSent f) := fun s => by
    unfold linkSent helloSent sequencedSent
    repeat' split
    all_goals rfl
  have hsent (c : TxContent) : KeepsList (frameSent c) := fun s => by
    cases c with
    | link f => exact hlink f s
    | response r => rfl
  unfold endTx
  split
  · split
    · rfl
    · exact (hsent ..).trans (keepsList_withLine ..)
  · rfl

/-- A response begun (R189). -/
theorem keepsList_sendResponse : KeepsList sendResponse := fun s => by
  unfold sendResponse
  split <;> rfl

/-! ### The replica apply unit -/

/-- HELLO_TAKEN (R150 to R154). -/
theorem execHelloTaken_changesList (session : Byte) (h : HelloBody) :
    StepMoves ChangesList (execHelloTaken session h) := by
  have hjudge : KeepsList (judgeHello session h) := fun s => by rw [judgeHello_frame]
  have harrived : KeepsList (helloArrived session h) := fun s => by
    unfold helloArrived
    split
    · split
      · unfold helloAgain
        split <;> rfl
      · exact hjudge _
    · exact hjudge _
    · rfl
  refine stepRelation_changesList.live fun s => ?_
  split
  · exact stepRelation_changesList.takeFrame _ harrived.moves s
  · exact .same

/-- A sequenced frame of the current session (R155 to R159). -/
theorem keepsList_sequencedArrived (n : SeqNum) (b : SeqBody) : KeepsList (sequencedArrived n b) := fun s => by
  have hinOrder : KeepsList (inOrder n b) := fun s => by
    unfold inOrder enqueue
    repeat' split
    all_goals rfl
  unfold sequencedArrived
  dsimp only
  split
  · exact hinOrder s
  · split <;> rfl

/-- REPLICA_BYE_TAKEN (R169). -/
theorem execReplicaByeTaken_changesList (session : Byte) (reason : ByeReason) :
    StepMoves ChangesList (execReplicaByeTaken session reason) := by
  have hleave : KeepsList (leaveSession none .listening) := fun _ => rfl
  refine stepRelation_changesList.live fun s => ?_
  split
  · exact stepRelation_changesList.takeFrame _ hleave.moves s
  · exact .same

/-- The oldest unstarted frame started (R94, R162). -/
theorem keepsList_startNext : KeepsList startNext := fun s => by
  unfold startNext startFrame
  repeat' split
  case h_1 => exact keepsList_retire ..
  all_goals rfl

/-- The oldest frame of the reply list begins (R165). -/
theorem keepsList_sendReply : KeepsList sendReply := fun s => by
  unfold sendReply
  split <;> rfl

/-- A replica side stopped (R148, R149). -/
theorem keepsList_stopReplica : KeepsList stopReplica := fun s => by
  unfold stopReplica
  split <;> rfl

/-- A change of role (R82, R170). -/
theorem keepsList_changeRole (role : Role) : KeepsList (changeRole role) := fun s => by
  cases role <;> rfl

/-! ### The service port -/

/-- SERVICE_FRAME_REJECTED (R187, R189). -/
theorem execServiceFrameRejected_changesList (d : Delivery) : StepMoves ChangesList (execServiceFrameRejected d) := by
  have hreject (x : Delivery) (s t : State) (ht : rejectDelivery x s = some t) : ChangesList s t := by
    unfold rejectDelivery at ht
    split at ht
    · cases ht
      exact .same
    · split at ht
      · cases ht
      · cases ht
        exact Moves.throughSlot (act := respond _ _ _) (fun _ => .same) (fun _ _ => .same) s
  refine stepRelation_changesList.live (stepRelation_changesList.takeDelivery .service fun x s t ht => ?_)
  split at ht
  · split at ht
    · cases ht
      exact .same
    · exact hreject x s t ht
  · cases ht

/-- SERVICE_FRAME_DROPPED (R189). -/
theorem execServiceFrameDropped_changesList : StepMoves ChangesList execServiceFrameDropped := by
  refine stepRelation_changesList.live (stepRelation_changesList.takeDelivery .service fun x s t ht => ?_)
  split at ht
  · cases ht
    exact .same
  · cases ht

/-- STATUS (R192). -/
theorem keepsList_doStatus (group : Byte) : KeepsList (doStatus group) := fun s => by
  unfold doStatus
  split <;> rfl

/-- READ_PARAM (R193). -/
theorem keepsList_doReadParam (number : Byte) : KeepsList (doReadParam number) := fun s => by
  unfold doReadParam
  split <;> rfl

/-- WRITE_PARAM (R136, R193, R194). -/
theorem keepsList_doWriteParam (number : Byte) (value : BitVec 16) : KeepsList (doWriteParam number value) := fun s => by
  unfold doWriteParam pendDivisor
  repeat' split
  all_goals rfl

/-- LOAD_REGION (R77, R79). -/
theorem keepsList_doLoadRegion (index : Byte) (base count : BitVec 32) (kind policy : Byte) :
    KeepsList (doLoadRegion index base count kind policy) := fun s => by
  unfold doLoadRegion loadChecked changeRegion
  repeat' split
  all_goals rfl

/-- CLEAR_REGION (R80). -/
theorem keepsList_doClearRegion (index : Byte) : KeepsList (doClearRegion index) := fun s => by
  unfold doClearRegion clearEntry changeRegion
  repeat' split
  all_goals rfl

/-- READ_REGION (R81). -/
theorem keepsList_doReadRegion (index : Byte) : KeepsList (doReadRegion index) := fun s => by
  unfold doReadRegion
  split <;> rfl

/-- START, in either form (R43, R148, R195). -/
theorem keepsList_doStart (m : State → Mirror) : KeepsList (doStart m) := fun s => by
  unfold doStart
  repeat' split
  all_goals rfl

/-- STOP NOW (R48, R148). -/
theorem keepsList_doStopNow : KeepsList doStopNow := fun s => by
  unfold doStopNow
  split
  · rfl
  · split
    · exact keepsList_stopPrimary s
    · exact keepsList_stopReplica s

/-- STOP DRAIN (R49). -/
theorem keepsList_doStopDrain : KeepsList doStopDrain := fun s => by
  unfold doStopDrain
  split <;> rfl

/-- ABORT (R53, R191). -/
theorem keepsList_doAbort : KeepsList doAbort := fun s => by
  unfold doAbort
  split
  · exact keepsList_stopPrimary _
  · rfl
  · rfl

/-- RESYNC (R54). -/
theorem keepsList_doResync (scope : ResyncScope) : KeepsList (doResync scope) := fun s => by
  unfold doResync
  repeat' split
  all_goals rfl

/-- READ_COUNTERS (R198). -/
theorem keepsList_doReadCounters (number : Byte) : KeepsList (doReadCounters number) := fun s => by
  unfold doReadCounters
  split <;> rfl

/-- CLEAR_COUNTERS (R198). -/
theorem keepsList_doClearCounters (number : Byte) : KeepsList (doClearCounters number) := fun s => by
  unfold doClearCounters
  repeat' split
  all_goals rfl

/-- SET_ROLE (R170, R200). -/
theorem keepsList_doSetRole (role : Byte) : KeepsList (doSetRole role) := fun s => by
  have hchange (r : Role) : (if r = s.role then s else changeRole r s).exceptions = s.exceptions := by
    split
    · rfl
    · exact keepsList_changeRole ..
  unfold doSetRole setRoleChecked
  split
  · split
    · rfl
    · split
      · rfl
      · exact hchange _
  · rfl

/-- PROMOTE (R171, R201). -/
theorem keepsList_doPromote (force : Byte) : KeepsList (doPromote force) := fun s => by
  unfold doPromote performPromote
  repeat' split
  all_goals rfl

/-- The completion of a soft reset (R203). -/
theorem keepsList_completeSoftReset : KeepsList completeSoftReset := fun s => by
  unfold completeSoftReset
  split <;> rfl

/-- SOFT_RESET (R202, R203). -/
theorem keepsList_doSoftReset : KeepsList doSoftReset := fun s => by
  have hstop : KeepsList softStop := fun s => by
    unfold softStop
    split
    · rfl
    · split
      · exact keepsList_stopPrimary s
      · exact keepsList_stopReplica s
  calc (doSoftReset s).exceptions
      = (beginSoftReset s).exceptions := keepsList_completeSoftReset _
    _ = (abandonFrame .service (abandonFrame .link ((softStop s).withLink (softStop s).link.quiet))).exceptions := rfl
    _ = (softStop s).exceptions := by simp
    _ = s.exceptions := hstop s

/-- SOFT_RESET_COMPLETE (R203). -/
theorem execSoftResetComplete_changesList : StepMoves ChangesList execSoftResetComplete := by
  refine KeepsList.live fun s => ?_
  split
  · exact keepsList_completeSoftReset s
  · rfl
  · rfl

/-! ### Resets -/

/-- BOARD_RESET_ASSERT keeps the list (R180). -/
theorem execBoardResetAssert_changesList : StepMoves ChangesList execBoardResetAssert := by
  refine Moves.next (KeepsList.moves fun s => ?_)
  split <;> rfl

/-- The ends of the two resets (R104, R199). -/
theorem execResetEnd_changesList (strapHigh : Bool) :
    StepMoves ChangesList (execBoardResetRelease strapHigh) ∧ StepMoves ChangesList (execPowerOnResetEnd strapHigh) := by
  constructor
  all_goals
    refine Moves.next (KeepsList.moves fun s => ?_)
    split <;> rfl

/-! ### Every command -/

/-- What every command can do to the exception list. -/
theorem exec_changesList (c : Instr) : StepMoves ChangesList (exec c) := by
  have hR := stepRelation_changesList
  cases c with
  | powerOnReset => exact Moves.next fun _ => ListChange.reset
  | boardResetAssert => exact execBoardResetAssert_changesList
  | boardResetRelease strapHigh => exact (execResetEnd_changesList strapHigh).1
  | hostRequestTake presented => exact execHostRequestTake_changesList presented
  | memorySideGrant => exact hR.live arbitrate_changesList
  | memoryResponse source tag status data => exact execMemoryResponse_changesList source tag status data
  | hostResponsePassBack => exact keepsList_passBack.live
  | sweepPick => exact KeepsList.liveWhen (f := fun s => s.withMirror s.mirror.pick) (fun _ => rfl) _
  | chunkReadIssue => exact execChunkReadIssue_changesList
  | doneEntryAppend => exact KeepsList.liveWhen (f := appendDone) (fun _ => rfl) _
  | drainNormalEnd => exact KeepsList.liveWhen (f := endDrainNormally) keepsList_stopPrimary _
  | holdAsserted => exact execHold_changesList.1
  | holdWithdrawn => exact execHold_changesList.2
  | helloTimerExpiry => exact KeepsList.liveWhen keepsList_helloExpired _
  | ackTimerExpiry => exact KeepsList.liveWhen (f := ackExpired) (fun _ => keepsList_checkRetry _) _
  | holdTimerExpiry => exact KeepsList.liveWhen keepsList_holdExpired _
  | relinkTimerExpiry => exact KeepsList.liveWhen (f := fun s => enterLinking (bump .relinkAttempts s)) (fun _ => rfl) _
  | drainTimerExpiry =>
    exact KeepsList.liveWhen (f := fun s => endDrain .timeout [] (stopPrimary s)) keepsList_stopPrimary _
  | characterReceived line ch => exact (keepsList_receive line ch).live
  | frameDiscarded d => exact execFrameDiscarded_changesList d
  | helloRoleConflict session => exact execHelloRoleConflict_changesList session
  | welcomeTaken session result => exact (keepsList_welcomed result).takeFrame _
  | byeTaken session reason => exact execByeTaken_changesList session reason
  | ackTaken session n => exact (keepsList_ackArrived n).takeFrame _
  | nakTaken session n => exact (keepsList_nakArrived n).takeFrame _
  | helloTaken session hello => exact execHelloTaken_changesList session hello
  | sequencedFrameTaken session n body => exact (keepsList_sequencedArrived n body).takeFrame _
  | replicaByeTaken session reason => exact execReplicaByeTaken_changesList session reason
  | applyFrameStart => exact keepsList_startNext.live
  | welcomeAcceptSend => exact KeepsList.liveWhen (f := acceptSend) (fun _ => rfl) _
  | linkFrameTransmitStart => exact keepsList_sendNext.liveWhen _
  | replyFrameTransmitStart => exact keepsList_sendReply.liveWhen _
  | responseTransmitStart => exact keepsList_sendResponse.live
  | transmissionEnd line => exact (keepsList_endTx line).live
  | divisorTakeEffect line half => exact KeepsList.live fun _ => keepsList_withLine ..
  | serviceFrameRejected d => exact execServiceFrameRejected_changesList d
  | serviceFrameDropped => exact execServiceFrameDropped_changesList
  | status group => exact (keepsList_doStatus group).serve _ _
  | readParam number => exact (keepsList_doReadParam number).serve _ _
  | writeParam number value => exact (keepsList_doWriteParam number value).serve _ _
  | loadRegion index base count kind policy => exact (keepsList_doLoadRegion index base count kind policy).serve _ _
  | clearRegion index => exact (keepsList_doClearRegion index).serve _ _
  | readRegion index => exact (keepsList_doReadRegion index).serve _ _
  | startFull => exact (keepsList_doStart fullStart).serve _ _
  | startClean => exact (keepsList_doStart cleanStart).serve _ _
  | stopNow => exact keepsList_doStopNow.serve _ _
  | stopDrain => exact keepsList_doStopDrain.serve _ _
  | abort => exact hR.takeCommand _ (hR.withPlace keepsList_doAbort.moves)
  | resync scope => exact (keepsList_doResync scope).serve _ _
  | readException => exact serve_changesList _ _ (act := doReadException) fun _ => ListChange.read
  | clearOverflow => exact serve_changesList _ _ (act := doClearOverflow) fun _ => ListChange.cleared
  | readAlerts => exact KeepsList.serve _ _ (act := doReadAlerts) fun _ => rfl
  | ackAlerts causes => exact KeepsList.serve _ _ (act := doAckAlerts causes) fun _ => rfl
  | setAlertMask causes => exact KeepsList.serve _ _ (act := doSetAlertMask causes) fun _ => rfl
  | readMarker => exact KeepsList.serve _ _ (act := doReadMarker) fun _ => rfl
  | readCounters number => exact (keepsList_doReadCounters number).serve _ _
  | clearCounters number => exact (keepsList_doClearCounters number).serve _ _
  | setRole role => exact (keepsList_doSetRole role).serve _ _
  | promote force => exact (keepsList_doPromote force).serve _ _
  | softReset => exact keepsList_doSoftReset.serve _ _
  | softResetComplete => exact execSoftResetComplete_changesList
  | lineSampledHigh line => exact KeepsList.live fun _ => keepsList_withLine ..
  | characterBoundary => exact KeepsList.live fun _ => rfl
  | powerOnResetEnd strapHigh => exact (execResetEnd_changesList strapHigh).2

/-- What every step can do to the exception list. -/
theorem step_changesList : StepMoves ChangesList step := by
  intro s t ht
  unfold step at ht
  split at ht
  · cases ht
    exact .same
  · next c rest _ => exact exec_changesList c { s with pending := rest } t ht

/-- Settles O51: a step makes one change to the list at most, and every change keeps it within its bounds. -/
theorem stepsKeepTheExceptionList : Obligations.StepsKeepTheExceptionList := by
  intro s t hs ht
  rw [exceptionsOk_iff] at hs ⊢
  exact hs.changed (step_changesList s t ht)

end Sys2Proof.Proofs
end

section
/-! PROOFS. The places of the response list and the command slot: which commands pass through the slot, and what becomes of a
command that finds no place or the slot occupied (R189 to R191). -/
namespace Sys2Proof.Proofs

open Sys2Proof.Machine Sys2Proof.Safety

/-! ### Places and the slot -/

/-- The response list has no free place exactly when the responses, with the one that is deferred, are four (R189). -/
theorem freePlaces_eq_zero_iff (s : State) :
    freePlaces s = 0 ↔ ¬ s.port.responses.length + (if s.port.slot.isSome then 1 else 0) < 4 := by
  simp only [freePlaces, Config.responsePlaces]
  omega

/-- A running part in which no response fits has no free place (R189). -/
theorem freePlaces_full {s : State} (hp : s.phase = .running) (h : ¬ResponseFits s) : freePlaces s = 0 :=
  (freePlaces_eq_zero_iff s).2 fun hlen => h ⟨hp, hlen⟩

/-- Where a response fits there is a free place (R189). -/
theorem freePlaces_fits {s : State} (h : ResponseFits s) : freePlaces s ≠ 0 := fun h0 =>
  (freePlaces_eq_zero_iff s).1 h0 h.2

/-- An occupied slot answers BUSY with the holder's command code (R190). -/
theorem throughSlot_busy {s : State} {holder : SlotHolder} (h : s.port.slot = some holder) (code : Byte)
    (act : State → State) :
    throughSlot code.toNat act s = answered (code + 128) .busy [if holder = .stopDrain then 8 else 21] s := by
  have hcode : BitVec.ofNat 8 (code.toNat + 128) = code + 128 := by
    rw [BitVec.ofNat_add, BitVec.ofNat_toNat, BitVec.setWidth_eq]
    rfl
  simp only [throughSlot, h, respond_eq, hcode]
  cases holder <;> rfl

/-! ### Commands and the slot -/

/-- A command whose row passes the slot is served under its row's code (R190). -/
theorem exec_slotted {c : Instr} {code : Byte} (h : slottedCode c = some code) :
    ∃ act, exec c = serve c code.toNat act := by
  cases c with
  | status | readParam | writeParam | loadRegion | clearRegion | readRegion | startFull | startClean | stopNow | stopDrain
  | resync | readException | clearOverflow | readAlerts | ackAlerts | setAlertMask | readMarker | readCounters
  | clearCounters | setRole | promote | softReset =>
    cases h
    exact ⟨_, rfl⟩
  | _ => cases h

/-- Every service command takes the frame that carries it (R142, R187). -/
theorem exec_takesCommand {c : Instr} (h : (slottedCode c).isSome = true ∨ c = .abort) :
    ∃ act, exec c = takeCommand c act := by
  rcases h with hslotted | rfl
  · obtain ⟨code, hcode⟩ := Option.isSome_iff_exists.1 hslotted
    obtain ⟨act, hexec⟩ := exec_slotted hcode
    exact ⟨withPlace (throughSlot code.toNat act), hexec⟩
  · exact ⟨withPlace doAbort, rfl⟩

/-- A command whose frame is not the oldest delivery is not taken (R142). -/
theorem takeCommand_other {c : Instr} {s : State} (h : ∀ d ∈ s.svcLine.delivered.head?, ¬Carries d c)
    (act : State → State) : takeCommand c act s = .next s := by
  have hstays : takeDelivery .service (fun d s => if serviceCommand d = some c then some (act s) else none) s = s := by
    rcases takeDelivery_cases .service (fun d s => if serviceCommand d = some c then some (act s) else none) s with
      ⟨_, hsame⟩ | ⟨d, rest, hd, ⟨_, hsame⟩ | ⟨t, ht, _⟩⟩
    · exact hsame
    · exact hsame
    · have hother : ¬Carries d c := h d (congrArg List.head? hd)
      rw [if_neg hother] at ht
      cases ht
  rw [takeCommand, live_next, hstays, ite_self]

section
variable {c : Instr} {d : Delivery} {s : State}

/-- A command that finds no free place is dropped and counted (R189). -/
theorem takeCommand_dropped (hc : Carries d c) (hp : s.phase = .running) (hfull : ¬ResponseFits s)
    (act : State → State) : takeCommand c (withPlace act) (handed .service d s) = .next (countedUp .serviceDropped s) := by
  rw [takeCommand_handed hp hc, withPlace_full fun hlen => hfull ⟨hp, hlen⟩, bump_eq]

/-- A command that finds a free place is handled (R189). -/
theorem takeCommand_placed (hc : Carries d c) (hfits : ResponseFits s) (act : State → State) :
    takeCommand c (withPlace act) (handed .service d s) = .next (act s) := by
  rw [takeCommand_handed hfits.1 hc, withPlace_free hfits.2]

end

/-- Settles O39: without a place a command is dropped, the slot answers BUSY for its holder, and ABORT meets a soft reset
alone. -/
theorem occupiedSlotAnswersBusy : Obligations.OccupiedSlotAnswersBusy := by
  intro s c code d hc
  refine ⟨fun hcode hp hfull => ?_, fun hcode hfits holder hslot => ?_, fun habort hp hfull => ?_,
    fun habort hfits hslot => ?_⟩
  · obtain ⟨act, hexec⟩ := exec_slotted hcode
    rw [hexec, serve, takeCommand_dropped hc hp hfull]
  · obtain ⟨act, hexec⟩ := exec_slotted hcode
    rw [hexec, serve, takeCommand_placed hc hfits, throughSlot_busy hslot]
  · subst habort
    exact takeCommand_dropped hc hp hfull doAbort
  · subst habort
    have hbusy : doAbort s = answered 137 .busy [21] s := by
      simp only [doAbort, hslot]
      rfl
    rw [← hbusy]
    exact takeCommand_placed hc hfits doAbort

end Sys2Proof.Proofs
end

section
/-! PROOFS. Service frames as bytes: what the checks of R187 make of a delivered frame, how a frame that is no command is
answered or dropped, and that each command is read back from the frame that carries it (R186, R187, R189, R192 to R201). -/
namespace Sys2Proof.Proofs

open Sys2Proof.Machine Sys2Proof.Safety

/-! ### The checks of R187 -/

/-- A frame with another check code than its own is refused (R187). -/
theorem serviceVerdict_badCrc {front check : List Byte} (hlen : check.length = 2) (h : check ≠ crcBytes front) :
    serviceVerdict (.frame (front ++ check)) = .reject .frameError 255 := by
  rw [serviceVerdict, take_before_check front hlen, drop_to_check front hlen, if_pos h.symm]

section
variable {code : Byte} {body : List Byte}

/-- A frame with its own check code is judged by its command code and the length of its body (R187). -/
theorem serviceVerdict_checked (code l : Byte) (body : List Byte) :
    serviceVerdict (.frame (checked (code :: l :: body))) =
      if code = 0 ∨ 21 < code.toNat then .reject .unknownCommand (if code.toNat < 128 then code + 128 else 254)
      else if commandLengthOk code.toNat body then .command code.toNat body else .reject .frameError 255 := by
  rw [checked, serviceVerdict, take_before_check _ (length_crcBytes _), drop_to_check _ (length_crcBytes _),
    if_neg (not_not_intro rfl)]
  rfl

/-- A code of the command table is no unknown command (R187). -/
theorem not_unknownCode (h1 : 1 ≤ code.toNat) (h21 : code.toNat ≤ 21) : ¬(code = 0 ∨ 21 < code.toNat) := by
  rintro (rfl | h)
  · exact absurd h1 (by decide)
  · exact absurd h21 (Nat.not_le.2 h)

/-- A body of a length that the command does not have is refused (R187). -/
theorem serviceVerdict_badLength (h1 : 1 ≤ code.toNat) (h21 : code.toNat ≤ 21)
    (hlen : commandLengthOk code.toNat body = false) (l : Byte) :
    serviceVerdict (.frame (checked (code :: l :: body))) = .reject .frameError 255 := by
  rw [serviceVerdict_checked, if_neg (not_unknownCode h1 h21), hlen, if_neg Bool.false_ne_true]

/-- A frame that passes the checks is a command's (R187). -/
theorem serviceVerdict_command (h1 : 1 ≤ code.toNat) (h21 : code.toNat ≤ 21)
    (hlen : commandLengthOk code.toNat body = true) (l : Byte) :
    serviceVerdict (.frame (checked (code :: l :: body))) = .command code.toNat body := by
  rw [serviceVerdict_checked, if_neg (not_unknownCode h1 h21), if_pos hlen]

end

/-- An option byte of START or STOP above 1 names neither form (R195). -/
theorem commandOf_undefinedOption {o : Byte} (h : 2 ≤ o.toNat) : commandOf 7 [o] = none ∧ commandOf 8 [o] = none := by
  have h0 : o ≠ 0#8 := by bv_omega
  have h1 : o ≠ 1#8 := by bv_omega
  simp [commandOf, h0, h1]

/-! ### Frames answered or dropped -/

section
variable {d : Delivery} {s t : State}

/-- A frame that is no command is dropped and counted without a free place (R189). -/
theorem exec_serviceFrameRejected_full (hp : s.phase = .running) (h : ¬ResponseFits s) :
    exec (.serviceFrameRejected d) (handed .service d s) = .next (countedUp .serviceDropped s) := by
  simp only [exec, execServiceFrameRejected, live_running ((handed_phase ..).trans hp), takeDelivery_handed, if_true,
    freePlaces_full hp h, bump_eq, Option.getD_some]

/-- With a free place the oldest delivery is answered, or left if it carries a command (R187, R189). -/
theorem exec_serviceFrameRejected_fits (h : ResponseFits s) :
    exec (.serviceFrameRejected d) (handed .service d s) =
      .next ((rejectDelivery d s).getD (handed .service d s)) := by
  simp only [exec, execServiceFrameRejected, live_running ((handed_phase ..).trans h.1), takeDelivery_handed, if_true,
    if_neg (freePlaces_fits h)]

/-- The oldest delivery is dropped and counted without a free place (R189). -/
theorem exec_serviceFrameDropped_full (hp : s.phase = .running) (h : ¬ResponseFits s) :
    exec .serviceFrameDropped (handed .service d s) = .next (countedUp .serviceDropped s) := by
  simp only [exec, execServiceFrameDropped, live_running ((handed_phase ..).trans hp), takeDelivery_handed,
    freePlaces_full hp h, if_true, bump_eq, Option.getD_some]

/-- No delivery is dropped while a response fits (R189). -/
theorem exec_serviceFrameDropped_fits (h : ResponseFits s) : exec .serviceFrameDropped s = .next s := by
  have hplace : ∀ rest, freePlaces (withLine .service { lineOf .service s with delivered := rest } s) ≠ 0 := fun _ =>
    freePlaces_fits h
  simp only [exec, execServiceFrameDropped, live_running h.1, takeDelivery]
  cases (lineOf .service s).delivered with
  | nil => rfl
  | cons d rest => simp only [if_neg (hplace rest), Option.getD_none]

/-- A frame that R187 refuses is answered with its status and code, whatever the slot holds (R187, R189). -/
theorem exec_rejectedFrame {status : Status} {code : Byte} (h : ResponseFits s)
    (hv : serviceVerdict d = .reject status code) :
    exec (.serviceFrameRejected d) (handed .service d s) = .next (answered code status [] s) := by
  rw [exec_serviceFrameRejected_fits h, rejectDelivery, hv]
  rfl

/-- A frame that passes R187 and spells no command is refused with RANGE while the slot is free (R195). -/
theorem exec_undefinedCommand {code : Nat} {body : List Byte} (h : ResponseFits s) (hslot : s.port.slot = none)
    (hv : serviceVerdict d = .command code body) (hnone : commandOf code body = none) :
    exec (.serviceFrameRejected d) (handed .service d s) =
      .next (answered (BitVec.ofNat 8 (code + 128)) .range [] s) := by
  have hreject : rejectDelivery d s = some (respond code .range [] s) := by
    simp only [rejectDelivery, hv, hnone, throughSlot_free hslot]
  rw [exec_serviceFrameRejected_fits h, hreject, Option.getD_some, respond_eq]

/-- A frame that carries a command is not rejected (R187). -/
theorem exec_serviceFrameRejected_carries {c : Instr} (h : ResponseFits s) (hc : Carries d c) :
    exec (.serviceFrameRejected d) (handed .service d s) = .next (handed .service d s) := by
  have hreject : rejectDelivery d s = none := by
    simp only [Carries, serviceCommand] at hc
    unfold rejectDelivery
    cases hv : serviceVerdict d with
    | reject status code =>
      rw [hv] at hc
      cases hc
    | command code body =>
      rw [hv] at hc
      simp only [hc]
  rw [exec_serviceFrameRejected_fits h, hreject, Option.getD_none]

end

/-! ### Commands read back -/

/-- A code of the command table and a body of an allowed length that spell a command (R187, R192 to R201). -/
structure Spells (code : Byte) (body : List Byte) (c : Instr) : Prop where
  one_le : 1 ≤ code.toNat
  le_last : code.toNat ≤ 21
  length_ok : commandLengthOk code.toNat body = true
  reads : commandOf code.toNat body = some c

/-- A frame whose code and body spell a command carries it (R186, R187). -/
theorem Spells.carries {code : Byte} {body : List Byte} {c : Instr} (h : Spells code body c) (l : Byte) :
    Carries (.frame (checked (code :: l :: body))) c := by
  rw [Carries, serviceCommand, serviceVerdict_command h.one_le h.le_last h.length_ok]
  exact h.reads

/-- A WRITE_PARAM's value is read back from its two bytes (R193). -/
theorem spells_writeParam (number : Byte) (value : BitVec 16) :
    Spells 3 (number :: beBytes 2 value.toNat) (.writeParam number value) where
  one_le := by decide
  le_last := by decide
  length_ok := rfl
  reads := by
    have hvalue : BitVec.ofNat 16 (ofBE (beBytes 2 value.toNat)) = value := ofNat_ofBE_beBytes value (by omega)
    exact congrArg (fun v => some (Instr.writeParam number v)) hvalue

/-- A LOAD_REGION's base and count are read back from four bytes each (R197). -/
theorem spells_loadRegion (index kind policy : Byte) (base count : BitVec 32) :
    Spells 4 (index :: beBytes 4 base.toNat ++ beBytes 4 count.toNat ++ [kind, policy])
      (.loadRegion index base count kind policy) where
  one_le := by decide
  le_last := by decide
  length_ok := rfl
  reads := by
    have hbase : BitVec.ofNat 32 (ofBE (beBytes 4 base.toNat)) = base := ofNat_ofBE_beBytes base (by omega)
    have hcount : BitVec.ofNat 32 (ofBE (beBytes 4 count.toNat)) = count := ofNat_ofBE_beBytes count (by omega)
    calc commandOf 4 (index :: beBytes 4 base.toNat ++ beBytes 4 count.toNat ++ [kind, policy])
      _ = some (.loadRegion index (BitVec.ofNat 32 (ofBE (beBytes 4 base.toNat)))
            (BitVec.ofNat 32 (ofBE (beBytes 4 count.toNat))) kind policy) := rfl
      _ = some (.loadRegion index base count kind policy) := by rw [hbase, hcount]

/-- A RESYNC's scope is read back by its scope byte (R196). -/
theorem spells_resync {scope : ResyncScope} (h : scopeWf scope = true) : Spells 10 (scopeBytes scope) (.resync scope) := by
  cases scope with
  | pages base count =>
    have hbase : BitVec.ofNat 32 (ofBE (beBytes 4 base.toNat)) = base := ofNat_ofBE_beBytes base (by omega)
    have hcount : BitVec.ofNat 32 (ofBE (beBytes 4 count.toNat)) = count := ofNat_ofBE_beBytes count (by omega)
    have hreads : commandOf 10 (scopeBytes (.pages base count)) = some (.resync (.pages base count)) := by
      calc commandOf 10 (scopeBytes (.pages base count))
        _ = some (.resync (.pages (BitVec.ofNat 32 (ofBE (beBytes 4 base.toNat)))
              (BitVec.ofNat 32 (ofBE (beBytes 4 count.toNat))))) := rfl
        _ = some (.resync (.pages base count)) := by rw [hbase, hcount]
    exact ⟨by decide, by decide, rfl, hreads⟩
  | region index => exact ⟨by decide, by decide, rfl, rfl⟩
  | all => exact ⟨by decide, by decide, rfl, rfl⟩
  | other b =>
    have hb : 2 < b.toNat := of_decide_eq_true h
    have h0 : b ≠ 0#8 := by bv_omega
    have h1 : b ≠ 1#8 := by bv_omega
    have h2 : b ≠ 2#8 := by bv_omega
    exact ⟨by decide, by decide, by simp [commandLengthOk, scopeBytes, h0, h1, h2],
      by simp [commandOf, readScope, scopeBytes, h0, h1, h2]⟩

/-- The code and the body with which a well-formed command is sent spell it (R192 to R201). -/
theorem spells_commandBody {c : Instr} {code : Byte} {body : List Byte} (hwf : c.wf = true)
    (h : commandBody c = some (code, body)) : Spells code body c := by
  cases c with
  | writeParam number value =>
    cases h
    exact spells_writeParam number value
  | loadRegion index base count kind policy =>
    cases h
    exact spells_loadRegion index kind policy base count
  | resync scope =>
    cases h
    exact spells_resync hwf
  | status | readParam | clearRegion | readRegion | startFull | startClean | stopNow | stopDrain | abort | readException
  | clearOverflow | readAlerts | ackAlerts | setAlertMask | readMarker | readCounters | clearCounters | setRole | promote
  | softReset =>
    cases h
    exact ⟨by decide, by decide, rfl, rfl⟩
  | _ => cases h

/-- A well-formed command is carried by its frame (R186, R187). -/
theorem carries_commandFrame {c : Instr} {bs : List Byte} (hwf : c.wf = true) (h : commandFrame c = some bs) :
    Carries (.frame bs) c := by
  obtain ⟨⟨code, body⟩, hbody, rfl⟩ := Option.map_eq_some_iff.1 h
  rw [beBytes_one]
  exact (spells_commandBody hwf hbody).carries _

/-- Settles O38: frames dropped without a place, answered by R187 with one, and commands read back from their frames. -/
theorem rejectedServiceFramesAreAnswered : Obligations.RejectedServiceFramesAreAnswered := by
  refine ⟨fun s hp hfull d => ⟨exec_serviceFrameDropped_full hp hfull, exec_serviceFrameRejected_full hp hfull⟩,
    fun s hfits => ⟨exec_serviceFrameDropped_fits hfits, fun h => exec_rejectedFrame hfits rfl,
      fun front check hlen hcrc => exec_rejectedFrame hfits (serviceVerdict_badCrc hlen hcrc),
      fun c l body hunknown => exec_rejectedFrame hfits ?_,
      fun c l body h1 h21 hlen => exec_rejectedFrame hfits (serviceVerdict_badLength h1 h21 hlen l),
      fun l o hslot ho => ?_⟩,
    fun c bs hwf hframe => carries_commandFrame hwf hframe,
    fun s c d hc hfits => exec_serviceFrameRejected_carries hfits hc,
    fun s c hcommand hother => ?_⟩
  · rw [serviceVerdict_checked, if_pos hunknown]
  · obtain ⟨hstart, hstop⟩ := commandOf_undefinedOption ho
    exact ⟨exec_undefinedCommand hfits hslot (serviceVerdict_command (by decide) (by decide) rfl l) hstart,
      exec_undefinedCommand hfits hslot (serviceVerdict_command (by decide) (by decide) rfl l) hstop⟩
  · obtain ⟨act, hexec⟩ := exec_takesCommand hcommand
    rw [hexec, takeCommand_other hother]

end Sys2Proof.Proofs
end

section
/-! PROOFS. SET_ROLE and PROMOTE: each by its checks in their order, and what a change of role leaves of the part (R82, R138,
R170, R171, R200, R201). -/
namespace Sys2Proof.Proofs

open Sys2Proof.Machine Sys2Proof.Safety

section
variable {s : State}

/-! ### SET_ROLE -/

/-- A byte above 1 names no role (R200). -/
theorem roleOfCode_none {b : Byte} (h : 2 ≤ b.toNat) : roleOfCode b = none := by
  have h0 : b ≠ 0 := by bv_omega
  have h1 : b ≠ 1 := by bv_omega
  rw [roleOfCode, if_neg h0, if_neg h1]

/-- The bytes 0 and 1 are those that name a role (R200). -/
theorem byte_zero_or_one {b : Byte} (h : b.toNat ≤ 1) : b = 0 ∨ b = 1 := by
  rcases Nat.le_one_iff_eq_zero_or_eq_one.1 h with h0 | h1
  · exact .inl (BitVec.eq_of_toNat_eq h0)
  · exact .inr (BitVec.eq_of_toNat_eq h1)

/-- A byte of 0 or 1 names a role, whose further checks SET_ROLE makes (R200). -/
theorem doSetRole_checked {b : Byte} (h : b.toNat ≤ 1) (s : State) : ∃ role, doSetRole b s = setRoleChecked role s := by
  rcases byte_zero_or_one h with rfl | rfl
  · exact ⟨.primary, rfl⟩
  · exact ⟨.replica, rfl⟩

/-- SET_ROLE of a byte that names no role (R200). -/
theorem doSetRole_range {b : Byte} (s : State) (h : 2 ≤ b.toNat) : doSetRole b s = answered 147 .range [] s := by
  simp only [doSetRole, roleOfCode_none h]
  rfl

/-- SET_ROLE outside OFF (R200). -/
theorem doSetRole_state {b : Byte} (hb : b.toNat ≤ 1) (hon : ownStateOff s = false) :
    doSetRole b s = answered 147 .state [] s := by
  obtain ⟨role, hrole⟩ := doSetRole_checked hb s
  rw [hrole, setRoleChecked, hon]
  rfl

/-- SET_ROLE while a request of the part's own is outstanding (R200). -/
theorem doSetRole_busy {b : Byte} (hb : b.toNat ≤ 1) (hoff : ownStateOff s = true) (hown : s.path.ownOutstanding = true) :
    doSetRole b s = answered 147 .busy [] s := by
  obtain ⟨role, hrole⟩ := doSetRole_checked hb s
  rw [hrole, setRoleChecked, hoff, hown]
  rfl

/-- SET_ROLE that passes its checks changes a role that differs (R200). -/
theorem setRoleChecked_ok (hoff : ownStateOff s = true) (hown : s.path.ownOutstanding = false) (role : Role) :
    setRoleChecked role s =
      answered 147 .ok (beBytes 1 (roleCode role)) (if s.role = role then s else changeRole role s) := by
  simp only [setRoleChecked, hoff, hown, eq_comm (a := role)]
  rfl

/-! ### PROMOTE -/

/-- PROMOTE with a byte that is neither form (R201). -/
theorem doPromote_range {force : Byte} (s : State) (h : 2 ≤ force.toNat) :
    doPromote force s = answered 148 .range [] s :=
  if_pos h

/-- PROMOTE at a primary (R201). -/
theorem doPromote_primary {force : Byte} (hf : force.toNat ≤ 1) (hr : s.role = .primary) :
    doPromote force s = answered 148 .state [] s := by
  simp only [doPromote, if_neg (Nat.not_lt.2 hf), hr]
  rfl

/-- PROMOTE at a replica that is not CONSISTENT and is not forced (R171, R201). -/
theorem doPromote_notConsistent (hr : s.role = .replica) (hc : s.replica.consistency ≠ .consistent) :
    doPromote 0 s = answered 148 .notConsistent [] s := by
  have hf : ¬1 < (0 : Byte).toNat := by decide
  simp only [doPromote, if_neg hf, hr, ne_eq, hc, not_false_eq_true, and_self, if_true]
  rfl

/-- PROMOTE at a replica that is CONSISTENT or is forced waits for no apply write: in flight it answers BUSY, and otherwise the
promotion is performed (R171, R201). -/
theorem doPromote_permitted {force : Byte} (hr : s.role = .replica)
    (h : force = 1 ∨ (force = 0 ∧ s.replica.consistency = .consistent)) :
    doPromote force s = if s.replica.applying.isSome then answered 148 .busy [] s else performPromote s := by
  have hf : ¬1 < force.toNat := by
    rcases h with rfl | ⟨rfl, _⟩ <;> decide
  have hpermitted : ¬(s.replica.consistency ≠ .consistent ∧ force = 0) := by
    rintro ⟨hc, rfl⟩
    rcases h with h10 | ⟨_, hcons⟩
    · exact absurd h10 (by decide)
    · exact hc hcons
  simp only [doPromote, if_neg hf, hr, if_neg hpermitted]
  rfl

/-- What a promotion leaves of the replica apply unit: a session is left with BYE(PROMOTED), and the state is OFF (R171). -/
def unitPromoted (s : State) : State :=
  if s.replica.state = .session then sessionLeft (some .promoted) .off s
  else { s with replica := { s.replica with state := .off } }

/-- A promotion of a replica that is already OFF leaves its unit as it is (R171). -/
theorem unitPromoted_off (h : s.replica.state = .off) : unitPromoted s = s := by
  have hnone : s.replica.state ≠ .session := by rw [h]; nofun
  rw [unitPromoted, if_neg hnone, ← h]

/-- A promotion changes no tracking entry before the role changes (R171). -/
theorem unitPromoted_path (s : State) : (unitPromoted s).path = s.path := by
  unfold unitPromoted
  split <;> rfl

/-- A promotion performed: the answer reports the consistency and the marker as they were, the unit is OFF and the role
PRIMARY, with waiting writes unsettled (R82, R171, R201). -/
theorem performPromote_eq (s : State) : performPromote s =
    answered 148 .ok (beBytes 1 (consistencyCode s.replica.consistency) ++ flagByte s.replica.marker.valid)
      { unitPromoted s with role := .primary, path := s.path.unsettle } := by
  rw [← unitPromoted_path s]
  cases hs : s.replica.state with
  | session =>
    have hleft : unitPromoted s = leaveSession (some .promoted) .off s := if_pos hs
    simp only [performPromote, hs, hleft]
    rfl
  | listening =>
    have hnone : s.replica.state ≠ .session := by rw [hs]; nofun
    have hoff : unitPromoted s = s.withReplica { s.replica with state := .off } := if_neg hnone
    simp only [performPromote, hs, hoff]
    rfl
  | off =>
    simp only [performPromote, hs, unitPromoted_off hs]
    rfl

end

/-- Settles O47: the checks of each command in their order, and the change of role. -/
theorem roleCommandsChangeTheRole : Obligations.RoleCommandsChangeTheRole := by
  refine ⟨fun s d hs => ⟨fun b hd hb => exec_carriedOut hs hd (doSetRole_range s hb) rfl,
      fun b hd hb hon => exec_carriedOut hs hd (doSetRole_state hb hon) rfl,
      fun b hd hb hoff hown => exec_carriedOut hs hd (doSetRole_busy hb hoff hown) rfl,
      fun hoff hown => ⟨fun hd => exec_carriedOut hs hd (setRoleChecked_ok hoff hown .primary) rfl,
        fun hd => exec_carriedOut hs hd (setRoleChecked_ok hoff hown .replica) rfl⟩⟩,
    fun s force d hs hd => ⟨fun hf => exec_carriedOut hs hd (doPromote_range s hf) rfl,
      fun hf hr => exec_carriedOut hs hd (doPromote_primary hf hr) rfl,
      fun hr => ⟨fun hf hc => ?_, fun hpermitted => ?_⟩⟩⟩
  · subst hf
    exact exec_carriedOut hs hd (doPromote_notConsistent hr hc) rfl
  · have hpromote : ∀ {t : State},
        (if s.replica.applying.isSome then answered 148 .busy [] s else performPromote s) = t →
        exec (.promote force) (handed .service d s) = .next t := fun ht =>
      exec_carriedOut hs hd ((doPromote_permitted hr hpermitted).trans ht) rfl
    refine ⟨fun hsome => hpromote (if_pos hsome), fun hnone => ?_⟩
    have hidle : ¬s.replica.applying.isSome = true := by
      rw [hnone]
      exact Bool.false_ne_true
    rw [hpromote ((if_neg hidle).trans (performPromote_eq s))]
    cases s.replica.consistency <;> rfl

end Sys2Proof.Proofs
end

section
/-! PROOFS. The oldest response given to a free service transmitter, and the divisors that the halves of a line take (R136,
R189). -/
namespace Sys2Proof.Proofs

open Sys2Proof.Machine Sys2Proof.Safety

section
variable {x : Line} {v : Nat}

/-- A transmitter that holds no frame takes a pending divisor that is due (R136). -/
theorem takeDivisor_transmitter (hdue : x.due = true) (htx : x.tx = none) (hv : x.txPending = some v) :
    takeDivisor .transmitter x = { x with txDivisor := v, txPending := none } := by
  simp [takeDivisor, hdue, htx, hv]

/-- A receiver in HUNT with no character under reception takes a pending divisor that is due (R136). -/
theorem takeDivisor_receiver (hdue : x.due = true) (hhunt : x.collected = none) (hv : x.rxPending = some v) :
    takeDivisor (.receiver false) x = { x with rxDivisor := v, rxPending := none } := by
  simp [takeDivisor, hdue, hhunt, hv]

/-- No half takes a divisor that is not due (R136). -/
theorem takeDivisor_notDue (h : Half) (hdue : x.due = false) : takeDivisor h x = x := by
  cases h <;> simp [takeDivisor, hdue]

/-- A transmitter that holds a frame takes no divisor (R136). -/
theorem takeDivisor_sending (htx : x.tx ≠ none) : takeDivisor .transmitter x = x := by
  simp [takeDivisor, htx]

/-- A receiver that collects a frame, or with a character under reception, takes no divisor (R136). -/
theorem takeDivisor_receiving {underReception : Bool} (h : underReception = true ∨ x.collected ≠ none) :
    takeDivisor (.receiver underReception) x = x := by
  rcases h with rfl | hcollecting
  · simp [takeDivisor]
  · simp [takeDivisor, hcollecting]

/-- In the running part DIVISOR_TAKE_EFFECT is the half's take of its divisor. -/
theorem exec_divisorTakeEffect {s : State} (hp : s.phase = .running) (l : LineId) (h : Half) :
    exec (.divisorTakeEffect l h) s = .next (withLine l (takeDivisor h (lineOf l s)) s) :=
  live_running hp

/-- A half that takes no divisor leaves the part as it is (R136). -/
theorem exec_divisorTakeEffect_stays {s : State} {l : LineId} {h : Half}
    (hstays : takeDivisor h (lineOf l s) = lineOf l s) : exec (.divisorTakeEffect l h) s = .next s := by
  simp only [exec, execDivisorTakeEffect, live_next, hstays, withLine_lineOf, ite_self]

end

/-- A free service transmitter begins the oldest response, all of whose characters count as begun (R189). -/
theorem sendResponse_free {s : State} {r : SvcResponse} {rest : List SvcResponse} (htx : s.svcLine.tx = none)
    (hresponses : s.port.responses = r :: rest) :
    sendResponse s = { s with
      port := { s.port with responses := rest },
      svcLine := { s.svcLine with tx := some {
        content := .response r, begun := (encodeResponse r).length, paused := false } } } := by
  simp only [sendResponse, htx, hresponses]
  rfl

/-- Settles O37: the start of a response, the divisors taken, and those that no half takes. -/
theorem responsesAndDivisorsTakeTheirTurn : Obligations.ResponsesAndDivisorsTakeTheirTurn := by
  refine ⟨fun s r rest hp htx hresponses => ?_, fun s l v hp hdue => ⟨fun htx hv => ?_, fun hhunt hv => ?_⟩,
    fun s l h hbusy => exec_divisorTakeEffect_stays ?_⟩
  · rw [← sendResponse_free htx hresponses]
    exact live_running hp
  · rw [exec_divisorTakeEffect hp, takeDivisor_transmitter hdue htx hv]
  · rw [exec_divisorTakeEffect hp, takeDivisor_receiver hdue hhunt hv]
  · rcases hbusy with hdue | ⟨rfl, htx⟩ | rfl | ⟨⟨b, rfl⟩, hcollecting⟩
    · exact takeDivisor_notDue h hdue
    · exact takeDivisor_sending htx
    · exact takeDivisor_receiving (.inl rfl)
    · exact takeDivisor_receiving (.inr hcollecting)

end Sys2Proof.Proofs
end

section
/-! PROOFS. The queue of commands: a step runs the command at its front with its rest, every command answers a next state, and
none of them touches the queue, which lies in no block of the part and which the resets carry over (R104;
spec/95_what_each_step_holds.md). -/
namespace Sys2Proof.Proofs

open Sys2Proof.Machine Sys2Proof.Safety

/-- Settles O1: the two branches of a step. -/
theorem stepRunsTheFrontCommand : Obligations.StepRunsTheFrontCommand :=
  ⟨fun c rest s h => by simp only [step, h], fun s h => by simp only [step, h]⟩

/-! ### The queue left alone -/

/-- The queue of commands after is the one before. -/
abbrev SameQueue (s t : State) : Prop :=
  t.pending = s.pending

/-- A line replaced (R142). -/
theorem withLine_sameQueue (l : LineId) (x : Line) : Moves SameQueue (withLine l x) := fun s => by
  cases l <;> rfl

/-- The queue is no part of a line or of the counters. -/
theorem stepRelation_sameQueue : StepRelation SameQueue where
  refl _ := rfl
  line l x s _ h := h.trans (withLine_sameQueue l x s)
  bump _ _ := rfl

/-- A command served by the port and the slot (R189, R190). -/
theorem Moves.serve_sameQueue (c : Instr) (code : Nat) {act : State → State} (h : Moves SameQueue act) :
    StepMoves SameQueue (serve c code act) :=
  stepRelation_sameQueue.serve c h fun _ _ => rfl

/-! ### Operations that several commands share -/

/-- An exception reported (R176). -/
theorem report_sameQueue (k : ExceptionKind) (src : Option Byte) (a : LineAddr) (i : Option (Fin 32)) :
    Moves SameQueue (report k src a i) := fun s => by
  rw [report_frame]

/-- STOP NOW in the primary role (R48). -/
theorem stopPrimary_sameQueue : Moves SameQueue stopPrimary := fun s => by
  rw [stopPrimary_frame]

/-- A replica side stopped (R148, R149). -/
theorem stopReplica_sameQueue : Moves SameQueue stopReplica := fun s => by
  unfold stopReplica
  split <;> rfl

/-- A session lost in UP (R46, R47, R52). -/
theorem sessionLost_sameQueue (cause : LossCause) : Moves SameQueue (sessionLost cause) := fun s => by
  rcases sessionLost_cases cause s with ⟨-, h⟩ | ⟨-, h⟩ | ⟨-, h⟩
  · rw [h, convert_frame]; rfl
  · rw [h, stopMirror_frame]; rfl
  · rw [h]; rfl

/-- The retry counter compared with its limit (R127). -/
theorem checkRetry_sameQueue : Moves SameQueue checkRetry :=
  stepRelation_sameQueue.when (sessionLost_sameQueue _) _

/-- A frame out of range (R124). -/
theorem protocolLoss_sameQueue : Moves SameQueue protocolLoss :=
  fun _ => sessionLost_sameQueue .protocol _

/-- The oldest entries removed on an acknowledgement (R21, R62). -/
theorem removeAcked_sameQueue (d : Nat) : Moves SameQueue (removeAcked d) := fun s => by
  rw [removeAcked_eq]; rfl

/-- A retirement (R163, R164). -/
theorem retire_sameQueue (f : QueuedFrame) (rest : List QueuedFrame) : Moves SameQueue (retire f rest) := fun s => by
  rw [retire_frame]

/-- A HELLO judged (R151, R152). -/
theorem judgeHello_sameQueue (n : Byte) (h : HelloBody) : Moves SameQueue (judgeHello n h) := fun s => by
  rw [judgeHello_frame]

/-- A frame under collection abandoned (R140). -/
theorem abandonFrame_sameQueue (l : LineId) : Moves SameQueue (abandonFrame l) := fun s => by
  unfold abandonFrame
  split <;> exact withLine_sameQueue ..

/-- A change of role (R82, R170). -/
theorem changeRole_sameQueue (role : Role) : Moves SameQueue (changeRole role) := fun s => by
  cases role <;> rfl

/-- The completion of a soft reset (R203). -/
theorem completeSoftReset_sameQueue : Moves SameQueue completeSoftReset := fun s => by
  unfold completeSoftReset
  split <;> rfl

/-! ### The memory path -/

/-- A head of intake taken into a tracking entry (R75, R91). -/
theorem takeInto_sameQueue (t : Fin 64) (req : HostRequest) : Moves SameQueue (takeInto t req) := fun s => by
  have hrefused (c : ReqClass) : Moves SameQueue (reportRefusal req c) := fun s => by
    cases c with
    | guard i | mirror i p => exact report_sameQueue ..
    | pass | signal i => rfl
  unfold takeInto
  dsimp only
  split
  · exact report_sameQueue _ _ _ _ (refuseTake ..)
  · split
    · exact hrefused _ (refuseTake ..)
    · split <;> rfl

/-- The head of intake taken if it can be (R90). -/
theorem takeHead_sameQueue : Moves SameQueue takeHead := fun s => by
  unfold takeHead
  split
  · next req rest t _ _ =>
    split
    · rfl
    · exact takeInto_sameQueue t req (s.withPath { s.path with intake := rest })
  · rfl

/-- The capture decision (R30 to R32). -/
theorem captureWrite_sameQueue (t : Fin 64) (e : TrackEntry) (s : State) : SameQueue s (captureWrite t e s).state := by
  have hmirror (i : Fin 32) (p : Policy) : SameQueue s (captureMirror t e i p s).state := by
    unfold captureMirror captureStreaming
    repeat' split
    all_goals rfl
  have hsignal (i : Fin 32) : SameQueue s (captureSignal t e i s).state := by
    unfold captureSignal captureMark
    split
    · repeat' split
      all_goals rfl
    · exact report_sameQueue ..
  unfold captureWrite
  split
  · exact hmirror ..
  · exact hsignal ..
  · rfl

/-- The oldest request of the host queue granted (R95, R96). -/
theorem grantHost_sameQueue (t : Fin 64) (ts : List (Fin 64)) : Moves SameQueue (grantHost t ts) := fun s => by
  unfold grantHost forward
  split
  · split
    · rfl
    · exact (captureWrite_sameQueue ..).trans (by rw [givePledge_frame])
  · rfl
  · rfl

/-- The arbiter's choice (R95). -/
theorem arbitrate_sameQueue : Moves SameQueue arbitrate := fun s => by
  have hown (u : Fin 8) (us : List (Fin 8)) : Moves SameQueue (grantOwn u us) := fun s => by
    unfold grantOwn
    split <;> rfl
  unfold arbitrate
  split
  · rfl
  · exact grantHost_sameQueue ..
  · exact hown ..
  · split
    · exact hown ..
    · exact grantHost_sameQueue ..

/-- The last read of a chunk answered (R8, R11, R39 to R41). -/
theorem endChunk_sameQueue (r : Reservation) : Moves SameQueue (endChunk r) := fun s => by
  have hcomplete : Moves SameQueue (completeChunk r) := fun s => by
    unfold completeChunk endCopy
    dsimp only
    repeat' split
    all_goals rfl
  unfold endChunk
  split
  · rfl
  · split
    · exact (report_sameQueue ..).trans rfl
    · exact hcomplete s

/-- An apply write answered (R162, R168). -/
theorem applyAnswered_sameQueue (a : LineAddr) (st : MemStatus) : Moves SameQueue (applyAnswered a st) := fun s => by
  have hstarted : Moves SameQueue retireStarted := fun s => by
    unfold retireStarted
    split
    · split
      · exact retire_sameQueue ..
      · rfl
    · rfl
  unfold applyAnswered
  dsimp only
  split
  · rfl
  · split
    · split
      · rw [applyFault_frame]; rfl
      · exact hstarted _
    · rfl

/-- A response to a request of the part's own (R101). -/
theorem ownAnswered_sameQueue (r : OwnRequest) (st : MemStatus) (data : List Byte) :
    Moves SameQueue (ownAnswered r st data) := fun s => by
  unfold ownAnswered sweepAnswered
  dsimp only
  split
  · split
    · rfl
    · split
      · rfl
      · exact endChunk_sameQueue ..
  · exact applyAnswered_sameQueue ..

/-- A response with source 255 (R97, R101, R103). -/
theorem matchOwn_sameQueue (tag : Fin 64) (st : MemStatus) (data : List Byte) :
    Moves SameQueue (matchOwn tag st data) := fun s => by
  unfold matchOwn
  split
  · rfl
  · split
    · exact ownAnswered_sameQueue ..
    all_goals rfl

/-- A response with a host source (R97, R98, R99, R103). -/
theorem matchHost_sameQueue (source : Byte) (t : Fin 64) (st : MemStatus) (data : List Byte) :
    Moves SameQueue (matchHost source t st data) := fun s => by
  have htell (e : TrackEntry) : Moves SameQueue (tellJournal t e st) := fun s => by
    unfold tellJournal
    split <;> rfl
  have hdecide (rule : CompletionRule) : Moves SameQueue (decideWrite t rule st) := fun s => by
    unfold decideWrite
    split <;> rfl
  unfold matchHost hostAnswered
  split
  · split
    · split
      · rfl
      · exact (hdecide ..).trans (htell ..)
    · rfl
  · split <;> rfl
  · rfl

/-- The oldest response passed back (R102). -/
theorem passBack_sameQueue : Moves SameQueue passBack := fun s => by
  unfold passBack
  repeat' split
  all_goals rfl

/-- A chunk read issued (R38). -/
theorem issueChunk_sameQueue (c : Copying) : Moves SameQueue (issueChunk c) := fun s => by
  unfold issueChunk
  split
  · rfl
  · split <;> rfl

/-! ### The link unit -/

/-- The HELLO timer expired (R115). -/
theorem helloExpired_sameQueue : Moves SameQueue helloExpired := fun s => by
  unfold helloExpired
  repeat' split
  all_goals rfl

/-- The hold timer expired (R122). -/
theorem holdExpired_sameQueue : Moves SameQueue holdExpired := fun s => by
  unfold holdExpired
  split
  · rfl
  · exact sessionLost_sameQueue ..
  · rfl

/-- A delivery discarded (R111, R142). -/
theorem execFrameDiscarded_sameQueue (d : Delivery) : StepMoves SameQueue (execFrameDiscarded d) := by
  refine stepRelation_sameQueue.live (stepRelation_sameQueue.takeDelivery .link fun x s t ht => ?_)
  split at ht
  · obtain ⟨c, -, rfl⟩ := Option.map_eq_some_iff.1 ht
    rfl
  · cases ht

/-- A HELLO taken by a primary (R131). -/
theorem execHelloRoleConflict_sameQueue (session : Byte) : StepMoves SameQueue (execHelloRoleConflict session) := by
  refine stepRelation_sameQueue.live fun s => ?_
  split
  · refine stepRelation_sameQueue.takeDelivery .link (fun d s t ht => ?_) s
    split at ht
    · cases ht
      rw [roleConflict_eq]
      split <;> rfl
    · cases ht
  · rfl

/-- A WELCOME of the current attempt, by its result (R116). -/
theorem welcomed_sameQueue (result : WelcomeResult) : Moves SameQueue (welcomed result) := fun s => by
  unfold welcomed
  repeat' split
  all_goals rfl

/-- A BYE of the current session (R117, R128). -/
theorem peerLeft_sameQueue (reason : ByeReason) : Moves SameQueue (peerLeft reason) := fun s => by
  unfold peerLeft
  split
  · rfl
  · exact sessionLost_sameQueue ..
  · rfl

/-- An ACK in range or out of it (R124, R125). -/
theorem ackArrived_sameQueue (n : SeqNum) : Moves SameQueue (ackArrived n) := fun s => by
  unfold ackArrived
  dsimp only
  split
  · exact protocolLoss_sameQueue s
  · split
    · rfl
    · exact removeAcked_sameQueue (s.journal.ackDistance n) s

/-- A NAK in range or out of it (R124, R126). -/
theorem nakArrived_sameQueue (n : SeqNum) : Moves SameQueue (nakArrived n) := fun s => by
  have hremoved (d : Nat) : SameQueue s (if d = 0 then s else removeAcked d s) := by
    split
    · rfl
    · exact removeAcked_sameQueue d s
  unfold nakArrived
  dsimp only
  split
  · exact protocolLoss_sameQueue s
  · exact (checkRetry_sameQueue _).trans (hremoved _)

/-- The next frame of the link unit begins (R119, R120). -/
theorem sendNext_sameQueue : Moves SameQueue sendNext := fun s => by
  unfold sendNext sendEntry
  repeat' split
  all_goals rfl

/-! ### The character layer -/

/-- A received character (R139, R140). -/
theorem receive_sameQueue (l : LineId) (c : Character) : Moves SameQueue (receive l c) := fun s => by
  have habandoned (s : State) (x : Line) : SameQueue s (withLine l x (abandonFrame l s)) :=
    (withLine_sameQueue ..).trans (abandonFrame_sameQueue ..)
  have hgood : Moves SameQueue (goodCharacter l c) := fun s => by
    unfold goodCharacter appendByte
    split
    · exact habandoned ..
    · split
      · split <;> exact withLine_sameQueue ..
      · rfl
  unfold receive
  dsimp only
  split
  · rfl
  · split
    · exact hgood _
    · exact abandonFrame_sameQueue ..
    · exact habandoned ..

/-- The end of a transmission (R114, R123, R136, R137). -/
theorem endTx_sameQueue (l : LineId) : Moves SameQueue (endTx l) := fun s => by
  have hsent (c : TxContent) : Moves SameQueue (frameSent c) := fun s => by
    unfold frameSent linkSent helloSent sequencedSent
    repeat' split
    all_goals rfl
  unfold endTx
  split
  · split
    · rfl
    · exact (hsent ..).trans (withLine_sameQueue ..)
  · rfl

/-- A response begun (R189). -/
theorem sendResponse_sameQueue : Moves SameQueue sendResponse := fun s => by
  unfold sendResponse
  split <;> rfl

/-! ### The replica apply unit -/

/-- A HELLO taken by a replica (R151, R153, R154). -/
theorem helloArrived_sameQueue (session : Byte) (h : HelloBody) : Moves SameQueue (helloArrived session h) := fun s => by
  unfold helloArrived helloAgain
  split
  · split
    · split <;> rfl
    · exact judgeHello_sameQueue ..
  · exact judgeHello_sameQueue ..
  · rfl

/-- A sequenced frame of the current session (R155 to R159). -/
theorem sequencedArrived_sameQueue (n : SeqNum) (b : SeqBody) : Moves SameQueue (sequencedArrived n b) := fun s => by
  have hinOrder : Moves SameQueue (inOrder n b) := fun s => by
    unfold inOrder enqueue
    repeat' split
    all_goals rfl
  unfold sequencedArrived
  dsimp only
  split
  · exact hinOrder s
  · split <;> rfl

/-- The oldest unstarted frame started (R94, R162). -/
theorem startNext_sameQueue : Moves SameQueue startNext := fun s => by
  unfold startNext startFrame
  repeat' split
  case h_1 => exact retire_sameQueue ..
  all_goals rfl

/-- The oldest frame of the reply list begins (R165). -/
theorem sendReply_sameQueue : Moves SameQueue sendReply := fun s => by
  unfold sendReply
  split <;> rfl

/-! ### The service port -/

/-- A service frame that is no command (R187, R189). -/
theorem execServiceFrameRejected_sameQueue (d : Delivery) : StepMoves SameQueue (execServiceFrameRejected d) := by
  have hreject (x : Delivery) (s t : State) (ht : rejectDelivery x s = some t) : SameQueue s t := by
    unfold rejectDelivery at ht
    split at ht
    · cases ht
      rfl
    · split at ht
      · cases ht
      · cases ht
        exact Moves.throughSlot (R := SameQueue) (act := respond _ _ _) (fun _ => rfl) (fun _ _ => rfl) s
  refine stepRelation_sameQueue.live (stepRelation_sameQueue.takeDelivery .service fun x s t ht => ?_)
  split at ht
  · split at ht
    · cases ht
      rfl
    · exact hreject x s t ht
  · cases ht

/-- A service frame without a free place (R189). -/
theorem execServiceFrameDropped_sameQueue : StepMoves SameQueue execServiceFrameDropped := by
  refine stepRelation_sameQueue.live (stepRelation_sameQueue.takeDelivery .service fun x s t ht => ?_)
  split at ht
  · cases ht
    rfl
  · cases ht

/-- WRITE_PARAM (R136, R193, R194). -/
theorem doWriteParam_sameQueue (number : Byte) (value : BitVec 16) :
    Moves SameQueue (doWriteParam number value) := fun s => by
  unfold doWriteParam pendDivisor
  repeat' split
  all_goals rfl

/-- LOAD_REGION (R77, R79). -/
theorem doLoadRegion_sameQueue (index : Byte) (base count : BitVec 32) (kind policy : Byte) :
    Moves SameQueue (doLoadRegion index base count kind policy) := fun s => by
  unfold doLoadRegion loadChecked changeRegion
  repeat' split
  all_goals rfl

/-- CLEAR_REGION (R80). -/
theorem doClearRegion_sameQueue (index : Byte) : Moves SameQueue (doClearRegion index) := fun s => by
  unfold doClearRegion clearEntry changeRegion
  repeat' split
  all_goals rfl

/-- START, in either form (R43, R148, R195). -/
theorem doStart_sameQueue (m : State → Mirror) : Moves SameQueue (doStart m) := fun s => by
  unfold doStart
  repeat' split
  all_goals rfl

/-- STOP NOW (R48, R148). -/
theorem doStopNow_sameQueue : Moves SameQueue doStopNow := fun s => by
  unfold doStopNow
  split
  · rfl
  · split
    · exact stopPrimary_sameQueue s
    · exact stopReplica_sameQueue s

/-- ABORT (R53, R191). -/
theorem doAbort_sameQueue : Moves SameQueue doAbort := fun s => by
  unfold doAbort
  split
  · exact stopPrimary_sameQueue (respond 9 .ok [] s)
  · rfl
  · rfl

/-- RESYNC (R54). -/
theorem doResync_sameQueue (scope : ResyncScope) : Moves SameQueue (doResync scope) := fun s => by
  unfold doResync
  repeat' split
  all_goals rfl

/-- CLEAR_COUNTERS (R198). -/
theorem doClearCounters_sameQueue (number : Byte) : Moves SameQueue (doClearCounters number) := fun s => by
  unfold doClearCounters
  repeat' split
  all_goals rfl

/-- SET_ROLE (R170, R200). -/
theorem doSetRole_sameQueue (role : Byte) : Moves SameQueue (doSetRole role) := fun s => by
  have hchange (r : Role) : SameQueue s (if r = s.role then s else changeRole r s) := by
    split
    · rfl
    · exact changeRole_sameQueue ..
  unfold doSetRole setRoleChecked
  split
  · split
    · rfl
    · split
      · rfl
      · exact hchange _
  · rfl

/-- PROMOTE (R171, R201). -/
theorem doPromote_sameQueue (force : Byte) : Moves SameQueue (doPromote force) := fun s => by
  unfold doPromote performPromote
  repeat' split
  all_goals rfl

/-- SOFT_RESET (R202, R203). -/
theorem doSoftReset_sameQueue : Moves SameQueue doSoftReset := fun s => by
  have hstop : Moves SameQueue softStop := fun s => by
    unfold softStop
    split
    · rfl
    · split
      · exact stopPrimary_sameQueue s
      · exact stopReplica_sameQueue s
  calc (doSoftReset s).pending
      = (beginSoftReset s).pending := completeSoftReset_sameQueue _
    _ = (abandonFrame .link ((softStop s).withLink (softStop s).link.quiet)).pending := abandonFrame_sameQueue ..
    _ = (softStop s).pending := abandonFrame_sameQueue ..
    _ = s.pending := hstop s

/-! ### Every command -/

/-- Every command's meaning is a next state: each is a step of the running part (R104) or is taken in any phase, and no arm
faults or is refused. -/
theorem exec_next (c : Instr) (s : State) : ∃ t, exec c s = .next t := by
  cases c <;> exact ⟨_, rfl⟩

/-- No command touches the queue of commands. -/
theorem exec_sameQueue (c : Instr) : StepMoves SameQueue (exec c) := by
  have hR := stepRelation_sameQueue
  cases c with
  | powerOnReset => exact Moves.next fun _ => rfl
  | boardResetAssert | boardResetRelease | powerOnResetEnd | holdAsserted | holdWithdrawn =>
    refine Moves.next fun s => ?_
    split <;> rfl
  | hostRequestTake presented =>
    refine Moves.next fun s => ?_
    split
    · exact takeHead_sameQueue _
    · rfl
  | memorySideGrant => exact hR.live arbitrate_sameQueue
  | memoryResponse source tag status data =>
    refine Moves.next fun s => ?_
    split
    · exact matchOwn_sameQueue ..
    · exact matchHost_sameQueue ..
  | hostResponsePassBack => exact hR.live passBack_sameQueue
  | chunkReadIssue =>
    refine hR.live fun s => ?_
    split
    · exact hR.when (issueChunk_sameQueue _) (fun s => s.mirror.sweepRuns) s
    · rfl
  | sweepPick => exact hR.live (hR.when (f := fun s => s.withMirror s.mirror.pick) (fun _ => rfl) _)
  | doneEntryAppend => exact hR.live (hR.when (f := appendDone) (fun _ => rfl) _)
  | drainNormalEnd => exact hR.live (hR.when (f := endDrainNormally) stopPrimary_sameQueue _)
  | helloTimerExpiry => exact hR.live (hR.when helloExpired_sameQueue _)
  | ackTimerExpiry => exact hR.live (hR.when (f := ackExpired) (fun _ => checkRetry_sameQueue _) _)
  | holdTimerExpiry => exact hR.live (hR.when holdExpired_sameQueue _)
  | relinkTimerExpiry =>
    exact hR.live (hR.when (f := fun s => enterLinking (bump .relinkAttempts s)) (fun _ => rfl) _)
  | drainTimerExpiry =>
    exact hR.live (hR.when (f := fun s => endDrain .timeout [] (stopPrimary s)) stopPrimary_sameQueue _)
  | characterReceived line ch => exact hR.live (receive_sameQueue line ch)
  | frameDiscarded d => exact execFrameDiscarded_sameQueue d
  | helloRoleConflict session => exact execHelloRoleConflict_sameQueue session
  | welcomeTaken session result => exact hR.live (hR.takeFrame _ (welcomed_sameQueue result))
  | ackTaken session n => exact hR.live (hR.takeFrame _ (ackArrived_sameQueue n))
  | nakTaken session n => exact hR.live (hR.takeFrame _ (nakArrived_sameQueue n))
  | sequencedFrameTaken session n body => exact hR.live (hR.takeFrame _ (sequencedArrived_sameQueue n body))
  | byeTaken session reason =>
    refine hR.live fun s => ?_
    split
    · exact hR.takeFrame _ (peerLeft_sameQueue reason) s
    · rfl
  | helloTaken session hello =>
    refine hR.live fun s => ?_
    split
    · exact hR.takeFrame _ (helloArrived_sameQueue session hello) s
    · rfl
  | replicaByeTaken session reason =>
    refine hR.live fun s => ?_
    split
    · exact hR.takeFrame _ (act := leaveSession none .listening) (fun _ => rfl) s
    · rfl
  | applyFrameStart => exact hR.live startNext_sameQueue
  | welcomeAcceptSend => exact hR.live (hR.when (f := acceptSend) (fun _ => rfl) _)
  | linkFrameTransmitStart => exact hR.live (hR.when sendNext_sameQueue _)
  | replyFrameTransmitStart => exact hR.live (hR.when sendReply_sameQueue _)
  | responseTransmitStart => exact hR.live sendResponse_sameQueue
  | transmissionEnd line => exact hR.live (endTx_sameQueue line)
  | lineSampledHigh | divisorTakeEffect => exact hR.live fun _ => withLine_sameQueue ..
  | characterBoundary => exact hR.live fun _ => rfl
  | serviceFrameRejected d => exact execServiceFrameRejected_sameQueue d
  | serviceFrameDropped => exact execServiceFrameDropped_sameQueue
  | status | readParam | readRegion | readCounters | stopDrain =>
    refine Moves.serve_sameQueue _ _ fun s => ?_
    simp only [doStatus, doReadParam, doReadRegion, doReadCounters, doStopDrain]
    split <;> rfl
  | readException | clearOverflow | readAlerts | ackAlerts | setAlertMask | readMarker =>
    exact Moves.serve_sameQueue _ _ fun _ => rfl
  | writeParam number value => exact (doWriteParam_sameQueue number value).serve_sameQueue _ _
  | loadRegion index base count kind policy =>
    exact (doLoadRegion_sameQueue index base count kind policy).serve_sameQueue _ _
  | clearRegion index => exact (doClearRegion_sameQueue index).serve_sameQueue _ _
  | startFull | startClean => exact (doStart_sameQueue _).serve_sameQueue _ _
  | stopNow => exact doStopNow_sameQueue.serve_sameQueue _ _
  | abort => exact hR.takeCommand _ (hR.withPlace doAbort_sameQueue)
  | resync scope => exact (doResync_sameQueue scope).serve_sameQueue _ _
  | clearCounters number => exact (doClearCounters_sameQueue number).serve_sameQueue _ _
  | setRole role => exact (doSetRole_sameQueue role).serve_sameQueue _ _
  | promote force => exact (doPromote_sameQueue force).serve_sameQueue _ _
  | softReset => exact doSoftReset_sameQueue.serve_sameQueue _ _
  | softResetComplete =>
    refine hR.live fun s => ?_
    split
    · exact completeSoftReset_sameQueue s
    · rfl
    · rfl

/-- Settles O2: each meaning is a next state, and none touches the queue. -/
theorem everyCommandAnswersANextState : Obligations.EveryCommandAnswersANextState := fun c s =>
  let ⟨t, ht⟩ := exec_next c s
  ⟨t, ht, exec_sameQueue c s t ht⟩

end Sys2Proof.Proofs
end

section
/-! PROOFS. What a step may lean on: a step of the running part runs, a frame is taken once checks 5 and 6 pass, and a command
is carried out with the slot free and a free place (R104, R111, R142, R189, R190). -/
namespace Sys2Proof.Proofs

open Sys2Proof.Machine Sys2Proof.Safety

section
variable {R : State → State → Prop}

/-- A line replaced leaves the part in its phase. -/
@[simp] theorem phase_withLine (l : LineId) (x : Line) (s : State) : (withLine l x s).phase = s.phase := by
  cases l <;> rfl

/-- A step of the running part starts from a part that runs (R104). -/
theorem StepRelation.liveRunning (hR : StepRelation R) {f : State → State}
    (h : ∀ s, s.phase = .running → R s (f s)) : StepMoves R (Machine.live f) := by
  refine Moves.next fun s => ?_
  split
  · next hp => exact h s hp
  · exact hR.refl s

/-- A mirror-link frame is acted on only if checks 5 and 6 pass, in a part of which no line tells (R111, R142). -/
theorem StepRelation.takeFrameJudged (hR : StepRelation R) (f : LinkFrame) {act : State → State} {P : State → Prop}
    (hline : ∀ x s, P s → P (withLine .link x s)) (h : ∀ s, P s → stateVerdict f s = none → R s (act s)) {s : State}
    (hs : P s) : R s (Machine.takeFrame f act s) := by
  have hjudged (t : State) (ht : P t) : R t (judged f act t) := by
    unfold judged
    split
    · exact hR.bump _ t
    · next htaken => exact h t ht htaken
  unfold Machine.takeFrame
  rcases takeDelivery_cases .link _ s with ⟨-, heq⟩ | ⟨d, rest, -, ⟨-, heq⟩ | ⟨t, ht, heq⟩⟩
  · rw [heq]
    exact hR.refl s
  · rw [heq]
    exact hR.refl s
  · rw [heq]
    dsimp only at ht
    split at ht
    · cases ht
      exact hR.line .link _ (hjudged _ (hline _ _ hs))
    · cases ht

/-- A delivery handled in the running part (R104, R142). -/
theorem StepRelation.takeDeliveryRunning (hR : StepRelation R) (l : LineId) {handle : Delivery → State → Option State}
    (h : ∀ d s t, s.phase = .running → handle d s = some t → R s t) : StepMoves R (Machine.live (Machine.takeDelivery l handle)) := by
  refine hR.liveRunning fun s hp => ?_
  rcases takeDelivery_cases l handle s with ⟨-, heq⟩ | ⟨d, rest, -, ⟨-, heq⟩ | ⟨t, ht, heq⟩⟩
  · rw [heq]
    exact hR.refl s
  · rw [heq]
    exact hR.refl s
  · rw [heq]
    exact hR.line l _ (h d _ t (by simpa using hp) ht)

/-- A service frame handled where the response list has a free place (R189). -/
theorem StepRelation.withPlaceFree (hR : StepRelation R) {act : State → State} {s : State} (hp : s.phase = .running)
    (h : ResponseFits s → R s (act s)) : R s (Machine.withPlace act s) := by
  by_cases hfits : s.port.responses.length + (if s.port.slot.isSome then 1 else 0) < 4
  · rw [withPlace_free hfits]
    exact h ⟨hp, hfits⟩
  · rw [withPlace_full hfits]
    exact hR.bump _ s

/-- A command that passes the slot, taken where the response list has a free place (R142, R187, R189). -/
theorem StepRelation.takePlaced (hR : StepRelation R) (c : Instr) {act : State → State}
    (h : ∀ s, ResponseFits s → R s (act s)) : StepMoves R (Machine.takeCommand c (Machine.withPlace act)) := by
  refine hR.takeDeliveryRunning .service fun d s t hp ht => ?_
  split at ht
  · cases ht
    exact hR.withPlaceFree hp (h s)
  · cases ht

/-- A command is carried out with the slot free and a free place, and otherwise answered BUSY in a free place, or dropped
(R189, R190). -/
theorem StepRelation.serveTaken (hR : StepRelation R) (c : Instr) {code : Nat} {act : State → State}
    (h : ∀ s, CommandTaken s → R s (act s)) (hbusy : ∀ s body, ResponseFits s → R s (respond code .busy body s)) :
    StepMoves R (Machine.serve c code act) := by
  refine hR.takePlaced c fun s hfits => ?_
  unfold Machine.throughSlot
  split
  · next hslot => exact h s ⟨hfits.1, hslot, by simpa [hslot] using hfits.2⟩
  · exact hbusy s _ hfits

end

end Sys2Proof.Proofs
end

section
/-! PROOFS. Where the blocks of the part stand: the role, the mirror state, the session state, the timers and the command slot,
and what each change of one of them asks of the others to leave them in agreement (R28, R115, R118, R122, R123, R147, R189,
R191, R202). -/
namespace Sys2Proof.Proofs

open Sys2Proof.Machine Sys2Proof.Safety

/-- What the agreement of the blocks reads of the part. -/
structure Standing where
  phase       : Phase
  role        : Role
  holdIn      : Bool
  mirror      : MirrorState
  drainTimer  : Timer
  session     : SessionState
  helloTimer  : Timer
  ackTimer    : Timer
  holdTimer   : Timer
  relinkTimer : Timer
  slot        : Option SlotHolder
  responses   : Nat
  replica     : ReplicaState

/-- Where the blocks of a part stand. -/
def standing (s : State) : Standing :=
  { phase := s.phase, role := s.role, holdIn := s.holdIn, mirror := s.mirror.state, drainTimer := s.mirror.drainTimer,
    session := s.link.state, helloTimer := s.link.helloTimer, ackTimer := s.link.ackTimer, holdTimer := s.link.holdTimer,
    relinkTimer := s.link.relinkTimer, slot := s.port.slot, responses := s.port.responses.length,
    replica := s.replica.state }

/-- The blocks agree (R28, R115, R118, R122, R123, R147, R189, R191, R202; the table of 2.1). -/
structure Standing.Ok (a : Standing) : Prop where
  replicaRole : a.role = .replica → a.mirror = .off
  primaryRole : a.role = .primary → a.replica = .off
  inReset : a.phase ≠ .running → a.mirror = .off ∧ a.replica = .off ∧ a.slot = none
  session : a.session = sessionOf a.mirror
  hello : a.helloTimer.isSome → a.session = .helloWait
  ack : a.ackTimer.isSome → a.session = .up ∧ a.holdIn = false
  hold : a.holdTimer.isSome ↔ a.holdIn = true ∧ a.session ≠ .idle
  relink : a.relinkTimer.isSome ↔ a.mirror = .tracking
  drain : a.drainTimer.isSome ↔ a.mirror = .draining
  draining : a.mirror = .draining ↔ a.slot = some .stopDrain
  softReset : a.slot = some .softReset → a.mirror = .off ∧ a.replica = .off
  places : a.responses + (if a.slot.isSome then 1 else 0) ≤ 4

/-- The agreement of the blocks is that of where they stand. -/
theorem coordinated_iff (s : State) : Coordinated s ↔ (standing s).Ok :=
  ⟨fun ⟨⟨replicaRole, primaryRole, inReset⟩, session, ⟨hello, ack, hold, relink, drain⟩, draining, softReset, places⟩ =>
    ⟨replicaRole, primaryRole, inReset, session, hello, ack, hold, relink, drain, draining, softReset, places⟩,
    fun h => ⟨⟨h.replicaRole, h.primaryRole, h.inReset⟩, h.session, ⟨h.hello, h.ack, h.hold, h.relink, h.drain⟩,
      h.draining, h.softReset, h.places⟩⟩

section
variable {a : Standing}

/-! ### What the agreement tells of a block -/

/-- Outside OFF the part runs in the primary role, and no soft reset waits (R28, R202). -/
theorem Standing.Ok.mirrorOn (h : a.Ok) (hm : a.mirror ≠ .off) :
    a.phase = .running ∧ a.role = .primary ∧ a.slot ≠ some .softReset := by
  refine ⟨Decidable.byContradiction fun hp => hm (h.inReset hp).1, ?_, fun hs => hm (h.softReset hs).1⟩
  cases hr : a.role with
  | primary => rfl
  | replica => exact absurd (h.replicaRole hr) hm

/-- A replica apply unit outside OFF is that of a running replica, and no soft reset waits (R147, R202). -/
theorem Standing.Ok.replicaOn (h : a.Ok) (hs : a.replica ≠ .off) :
    a.phase = .running ∧ a.role = .replica ∧ a.slot ≠ some .softReset := by
  refine ⟨Decidable.byContradiction fun hp => hs (h.inReset hp).2.1, ?_, fun hsoft => hs (h.softReset hsoft).2⟩
  cases hr : a.role with
  | primary => exact absurd (h.primaryRole hr) hs
  | replica => rfl

/-- A session waits for its WELCOME in LINKING alone (R28, R112). -/
theorem Standing.Ok.linking_of_helloWait (h : a.Ok) (hs : a.session = .helloWait) : a.mirror = .linking := by
  have hsession := h.session
  cases hm : a.mirror <;> simp [hm, hs, sessionOf] at hsession ⊢

/-- No HELLO timer runs outside HELLO_WAIT (R115). -/
theorem Standing.Ok.helloStopped (h : a.Ok) (hs : a.session ≠ .helloWait) : a.helloTimer = none :=
  Option.not_isSome_iff_eq_none.1 fun ht => hs (h.hello ht)

/-- No ACK timer runs outside UP (R123). -/
theorem Standing.Ok.ackStopped (h : a.Ok) (hs : a.session ≠ .up) : a.ackTimer = none :=
  Option.not_isSome_iff_eq_none.1 fun ht => hs (h.ack ht).1

/-- No relink timer runs outside TRACKING (R118). -/
theorem Standing.Ok.relinkStopped (h : a.Ok) (hm : a.mirror ≠ .tracking) : a.relinkTimer = none :=
  Option.not_isSome_iff_eq_none.1 fun ht => hm (h.relink.1 ht)

/-! ### The response list and the command slot -/

/-- A response joins a free place (R189). -/
theorem Standing.Ok.answered (h : a.Ok) (hfits : a.responses + (if a.slot.isSome then 1 else 0) < 4) :
    Standing.Ok { a with responses := a.responses + 1 } :=
  { h with places := by dsimp only; omega }

/-- Responses leave the list (R189). -/
theorem Standing.Ok.responsesSent (h : a.Ok) {n : Nat} (hn : n ≤ a.responses) : Standing.Ok { a with responses := n } :=
  { h with places := Nat.le_trans (Nat.add_le_add_right hn _) h.places }

/-- A soft reset that waited is answered in its held-back place (R203). -/
theorem Standing.Ok.softResetAnswered (h : a.Ok) (hslot : a.slot = some .softReset) :
    Standing.Ok { a with slot := none, responses := a.responses + 1 } := by
  have hplaces := h.places
  obtain ⟨hm, -⟩ := h.softReset hslot
  rw [hslot] at hplaces
  exact { h with
    inReset := fun hp => ⟨(h.inReset hp).1, (h.inReset hp).2.1, rfl⟩
    draining := by simp [hm]
    softReset := nofun
    places := by simpa using hplaces }

/-! ### The mirror state machine and the session -/

/-- The mirror state OFF with the session IDLE and every timer stopped, and what the slot and the response list then hold
(R48, R51 to R53, R202). -/
def Standing.stopped (slot : Option SlotHolder) (responses : Nat) (a : Standing) : Standing :=
  { a with mirror := .off, drainTimer := none, session := .idle, helloTimer := none, ackTimer := none, holdTimer := none,
           relinkTimer := none, slot := slot, responses := responses }

/-- The primary's own side stopped: a drain lets go of the slot (R48, R51 to R53), and a soft reset takes it once the replica
apply unit is in OFF too (R202). -/
theorem Standing.Ok.stopped (h : a.Ok) {slot : Option SlotHolder} {responses : Nat} (hdrain : slot ≠ some .stopDrain)
    (hsoft : slot = some .softReset → a.phase = .running ∧ a.replica = .off)
    (hplaces : responses + (if slot.isSome then 1 else 0) ≤ 4) : (a.stopped slot responses).Ok where
  replicaRole _ := rfl
  primaryRole := h.primaryRole
  inReset hp := by
    refine ⟨rfl, (h.inReset hp).2.1, ?_⟩
    cases hs : slot with
    | none => rfl
    | some holder =>
      cases holder with
      | stopDrain => exact absurd hs hdrain
      | softReset => exact absurd (hsoft hs).1 hp
  session := rfl
  hello := nofun
  ack := nofun
  hold := by simp [Standing.stopped]
  relink := by simp [Standing.stopped]
  drain := by simp [Standing.stopped]
  draining := by simp [Standing.stopped, hdrain]
  softReset hs := ⟨rfl, (hsoft hs).2⟩
  places := hplaces

/-- A session or an attempt lost: TRACKING, the session IDLE and the relink timer running (R45, R46, R117, R118). -/
def Standing.tracking (interval : Nat) (a : Standing) : Standing :=
  { a with mirror := .tracking, session := .idle, helloTimer := none, ackTimer := none, holdTimer := none,
           relinkTimer := some interval }

/-- A session or an attempt is lost outside OFF and DRAINING (R45, R46). -/
theorem Standing.Ok.tracking (h : a.Ok) (hon : a.mirror ≠ .off) (hdrain : a.mirror ≠ .draining) (interval : Nat) :
    (a.tracking interval).Ok := by
  obtain ⟨hrun, hrole, hsoft⟩ := h.mirrorOn hon
  exact { h with
    replicaRole := fun hr => absurd (hrole.symm.trans hr) nofun
    inReset := fun hp => absurd hrun hp
    session := rfl
    hello := nofun
    ack := nofun
    hold := by simp [Standing.tracking]
    relink := by simp [Standing.tracking]
    drain := by simpa [Standing.tracking] using fun ht => hdrain (h.drain.1 ht)
    draining := by simpa [Standing.tracking] using fun hs => hdrain (h.draining.2 hs)
    softReset := fun hs => absurd hs hsoft }

/-- A new session offered: LINKING and HELLO_WAIT, with the hold timer running if HOLD is asserted (R114, R122). -/
def Standing.linking (timeout : Nat) (a : Standing) : Standing :=
  { a with mirror := .linking, session := .helloWait, relinkTimer := none,
           holdTimer := if a.holdIn then some timeout else none }

/-- A session is offered by a running primary in OFF or TRACKING (R45, R114). -/
theorem Standing.Ok.linking (h : a.Ok) (hrun : a.phase = .running) (hrole : a.role = .primary)
    (hm : a.mirror = .off ∨ a.mirror = .tracking) (hsoft : a.slot ≠ some .softReset) (timeout : Nat) :
    (a.linking timeout).Ok := by
  have hdrain : a.mirror ≠ .draining := by rcases hm with hm | hm <;> simp [hm]
  have hidle : a.session ≠ .up := by rcases hm with hm | hm <;> simp [h.session, hm, sessionOf]
  exact { h with
    replicaRole := fun hr => absurd (hrole.symm.trans hr) nofun
    inReset := fun hp => absurd hrun hp
    session := rfl
    hello := fun _ => rfl
    ack := fun ht => absurd (h.ack ht).1 hidle
    hold := by cases hh : a.holdIn <;> simp [Standing.linking, hh]
    relink := by simp [Standing.linking]
    drain := by simpa [Standing.linking] using fun ht => hdrain (h.drain.1 ht)
    draining := by simpa [Standing.linking] using fun hs => hdrain (h.draining.2 hs)
    softReset := fun hs => absurd hs hsoft }

/-- A session accepted: UP, with STREAMING or CATCHUP (R44, R116). -/
theorem Standing.Ok.accepted (h : a.Ok) (hwait : a.session = .helloWait) {m : MirrorState} (hm : m.capturing = true) :
    Standing.Ok { a with mirror := m, session := .up, helloTimer := none, ackTimer := none } := by
  have hlinking := h.linking_of_helloWait hwait
  obtain ⟨hrun, hrole, hsoft⟩ := h.mirrorOn (by simp [hlinking])
  have hdrain : a.mirror ≠ .draining := by simp [hlinking]
  have htrack : a.mirror ≠ .tracking := by simp [hlinking]
  have hnew := (capturing_iff m).1 hm
  have hnotDraining : m ≠ .draining := by rcases hnew with hnew | hnew <;> simp [hnew]
  have hnotTracking : m ≠ .tracking := by rcases hnew with hnew | hnew <;> simp [hnew]
  exact { h with
    replicaRole := fun hr => absurd (hrole.symm.trans hr) nofun
    inReset := fun hp => absurd hrun hp
    session := by rcases hnew with rfl | rfl <;> rfl
    hello := nofun
    ack := nofun
    hold := by simpa [hwait] using h.hold
    relink := by simpa [hnotTracking] using fun ht => htrack (h.relink.1 ht)
    drain := by simpa [hnotDraining] using fun ht => hdrain (h.drain.1 ht)
    draining := by simpa [hnotDraining] using fun hs => hdrain (h.draining.2 hs)
    softReset := fun hs => absurd hs hsoft }

/-- STREAMING and CATCHUP take each other's place with the session UP (R29, R42). -/
theorem Standing.Ok.captures (h : a.Ok) (hold : a.mirror.capturing = true) {m : MirrorState} (hm : m.capturing = true) :
    Standing.Ok { a with mirror := m } := by
  obtain ⟨hrun, hrole, hsoft⟩ := h.mirrorOn (fun hoff => by simp [hoff, MirrorState.capturing] at hold)
  have hsession : sessionOf m = sessionOf a.mirror := by
    rcases (capturing_iff _).1 hold with h1 | h1 <;> rcases (capturing_iff m).1 hm with rfl | rfl <;> rw [h1] <;> rfl
  have hother {x : MirrorState} (hx : x.capturing = false) : m = x ↔ a.mirror = x :=
    ⟨fun e => absurd (e ▸ hm) (by simp [hx]), fun e => absurd (e ▸ hold) (by simp [hx])⟩
  exact { h with
    replicaRole := fun hr => absurd (hrole.symm.trans hr) nofun
    inReset := fun hp => absurd hrun hp
    session := h.session.trans hsession.symm
    relink := h.relink.trans (hother rfl).symm
    drain := h.drain.trans (hother rfl).symm
    draining := (hother rfl).trans h.draining
    softReset := fun hs => absurd hs hsoft }

/-- A page marked: STREAMING becomes CATCHUP, every other mirror state stays (R29). -/
theorem Standing.Ok.marked (h : a.Ok) :
    Standing.Ok { a with mirror := if a.mirror = .streaming then .catchup else a.mirror } := by
  by_cases hs : a.mirror = .streaming
  · rw [if_pos hs]
    exact h.captures (by rw [hs]; rfl) rfl
  · rwa [if_neg hs]

/-- A drain begins: DRAINING with its timer, and the slot held (R49, R191). -/
theorem Standing.Ok.drainBegun (h : a.Ok) (hm : a.mirror.capturing = true) (ms : Nat) (hplaces : a.responses < 4) :
    Standing.Ok { a with mirror := .draining, drainTimer := some ms, slot := some .stopDrain } := by
  have hnew := (capturing_iff a.mirror).1 hm
  obtain ⟨hrun, hrole, -⟩ := h.mirrorOn (by rcases hnew with hnew | hnew <;> simp [hnew])
  have hsession : a.session = .up := by rw [h.session]; rcases hnew with hnew | hnew <;> rw [hnew] <;> rfl
  have htrack : a.mirror ≠ .tracking := by rcases hnew with hnew | hnew <;> simp [hnew]
  exact { h with
    replicaRole := fun hr => absurd (hrole.symm.trans hr) nofun
    inReset := fun hp => absurd hrun hp
    session := hsession
    relink := by simpa using fun ht => htrack (h.relink.1 ht)
    drain := by simp
    draining := by simp
    softReset := nofun
    places := hplaces }

/-! ### Timers and HOLD -/

/-- HOLD asserted: no ACK timer runs, and the hold timer runs outside IDLE (R122, R123). -/
theorem Standing.Ok.holdRaised (h : a.Ok) {hold : Timer} (hhold : hold.isSome ↔ a.session ≠ .idle) :
    Standing.Ok { a with holdIn := true, ackTimer := none, holdTimer := hold } :=
  { h with
    ack := nofun
    hold := by simpa using hhold }

/-- In IDLE no timer reads the level at the HOLD connection (R122, R123). -/
theorem Standing.Ok.holdUnread (h : a.Ok) (hidle : a.session = .idle) (level : Bool) :
    Standing.Ok { a with holdIn := level } :=
  { h with
    ack := fun ht => absurd (hidle.symm.trans (h.ack ht).1) nofun
    hold := by simpa [hidle] using h.hold }

/-- HOLD withdrawn: no hold timer runs, and the ACK timer runs in UP alone (R122, R123). -/
theorem Standing.Ok.holdLowered (h : a.Ok) {ack : Timer} (hack : ack.isSome → a.session = .up) :
    Standing.Ok { a with holdIn := false, ackTimer := ack, holdTimer := none } :=
  { h with
    ack := fun ht => ⟨hack ht, rfl⟩
    hold := by simp }

/-- The ACK timer runs in UP with HOLD withdrawn alone (R123). -/
theorem Standing.Ok.ackTimed (h : a.Ok) {ack : Timer} (hack : ack.isSome → a.session = .up ∧ a.holdIn = false) :
    Standing.Ok { a with ackTimer := ack } :=
  { h with ack := hack }

/-- The HELLO timer runs in HELLO_WAIT alone (R115). -/
theorem Standing.Ok.helloTimed (h : a.Ok) {hello : Timer} (hhello : hello.isSome → a.session = .helloWait) :
    Standing.Ok { a with helloTimer := hello } :=
  { h with hello := hhello }

/-! ### The replica apply unit and the role -/

/-- The replica state changes: it leaves OFF in a running replica alone, and not while a soft reset waits (R147, R202). -/
theorem Standing.Ok.replicaTurned (h : a.Ok) {x : ReplicaState}
    (hx : x ≠ .off → a.phase = .running ∧ a.role = .replica ∧ a.slot ≠ some .softReset) :
    Standing.Ok { a with replica := x } := by
  by_cases hoff : x = .off
  · subst hoff
    exact { h with
      primaryRole := fun _ => rfl
      inReset := fun hp => ⟨(h.inReset hp).1, rfl, (h.inReset hp).2.2⟩
      softReset := fun hs => ⟨(h.softReset hs).1, rfl⟩ }
  · obtain ⟨hrun, hrole, hsoft⟩ := hx hoff
    exact { h with
      primaryRole := fun hr => absurd (hrole.symm.trans hr) nofun
      inReset := fun hp => absurd hrun hp
      softReset := fun hs => absurd hs hsoft }

/-- A role taken up with both blocks in OFF (R170, R199). -/
theorem Standing.Ok.roleTaken (h : a.Ok) (hm : a.mirror = .off) (hr : a.replica = .off) (role : Role) :
    Standing.Ok { a with role := role } :=
  { h with replicaRole := fun _ => hm, primaryRole := fun _ => hr }

/-- The end of a reset finds both blocks in OFF and the slot free, in whatever role it leaves the part (R103, R104, R199). -/
theorem Standing.Ok.released (h : a.Ok) (hp : a.phase ≠ .running) (role : Role) :
    Standing.Ok { a with phase := .running, role := role } := by
  obtain ⟨hm, hr, -⟩ := h.inReset hp
  exact { h.roleTaken hm hr role with inReset := fun hrun => absurd rfl hrun }

/-- Every block after reset, in whatever role and at whatever level at the HOLD connection (R28, R112, R172, R204). -/
theorem Standing.ok_reset (phase : Phase) (role : Role) (holdIn : Bool) :
    Standing.Ok { standing State.reset with phase := phase, role := role, holdIn := holdIn } where
  replicaRole _ := rfl
  primaryRole _ := rfl
  inReset _ := ⟨rfl, rfl, rfl⟩
  session := rfl
  hello := nofun
  ack := nofun
  hold := by simp [standing, State.reset, Link.reset]
  relink := by simp [standing, State.reset, Link.reset, Mirror.reset]
  drain := by simp [standing, State.reset, Mirror.reset]
  draining := by simp [standing, State.reset, Mirror.reset, Port.reset]
  softReset := nofun
  places := Nat.zero_le _

end

end Sys2Proof.Proofs
end

section
/-! PROOFS. Everything that can happen on the mirroring side of the part, one event at a time: to the mirror block with the dirty
page map, to the journal and the held list, and to the claims that tracking entries have on the journal (chapters 1 to 3). -/
namespace Sys2Proof.Proofs

open Sys2Proof.Machine Sys2Proof.Safety

/-! ### The mirroring side -/

/-- What the invariants of the journal and of the dirty page map read of the part. -/
structure MirrorSide where
  mirror  : Mirror
  journal : Journal
  table   : Vector TrackSlot 64
  held    : List HeldRecord
  window  : Nat

/-- The mirroring side of a part. -/
def mirrorSide (s : State) : MirrorSide :=
  { mirror := s.mirror, journal := s.journal, table := s.path.table, held := s.held, window := param .window s }

/-! ### Claims of tracking entries on the journal -/

/-- A tracking entry changes without a change of its pledge, and keeps its capture link or drops it (R6, R99). -/
structure SameClaims (x y : TrackSlot) : Prop where
  pledged : slotPledged y = slotPledged x
  capture : slotCapture y = slotCapture x ∨ slotCapture y = none

/-- Every tracking entry keeps its pledge, and its capture link or none. -/
def KeepsClaims (v w : Vector TrackSlot 64) : Prop :=
  ∀ t : Fin 64, SameClaims v[t] w[t]

/-- A tracking entry has the same claims as itself. -/
theorem SameClaims.refl (x : TrackSlot) : SameClaims x x := ⟨rfl, .inl rfl⟩

/-- Claims kept twice are kept. -/
theorem SameClaims.trans {x y z : TrackSlot} (h : SameClaims x y) (hnext : SameClaims y z) : SameClaims x z := by
  refine ⟨hnext.pledged.trans h.pledged, ?_⟩
  rcases hnext.capture with hz | hz
  · rw [hz]
    exact h.capture
  · exact .inr hz

/-- An entry in use with the same pledge and the same capture link. -/
theorem SameClaims.used {e e' : TrackEntry} (hp : e'.pledge = e.pledge) (hc : e'.capture = e.capture) :
    SameClaims (.used e) (.used e') := ⟨hp, .inl hc⟩

/-- A table left as it is. -/
theorem KeepsClaims.refl (v : Vector TrackSlot 64) : KeepsClaims v v := fun t => .refl v[t]

/-- Claims kept twice are kept. -/
theorem KeepsClaims.trans {u v w : Vector TrackSlot 64} (h : KeepsClaims u v) (hnext : KeepsClaims v w) :
    KeepsClaims u w := fun t => (h t).trans (hnext t)

/-- One tracking entry written. -/
theorem KeepsClaims.set {v : Vector TrackSlot 64} {t : Fin 64} {x : TrackSlot} (h : SameClaims v[t] x) :
    KeepsClaims v (v.set t x) := fun u => by
  by_cases hu : u = t
  · subst hu
    rwa [getElem_set_same]
  · rw [getElem_set_other _ _ hu]
    exact .refl _

/-- Every tracking entry written. -/
theorem KeepsClaims.map {f : TrackSlot → TrackSlot} (hf : ∀ x, SameClaims x (f x)) (v : Vector TrackSlot 64) :
    KeepsClaims v (v.map f) := fun t => by
  simpa using hf v[t]

/-- One entry in use changed without a change of its claims. -/
theorem keepsClaims_modifyEntry {f : TrackEntry → TrackEntry} (hf : ∀ e, SameClaims (.used e) (.used (f e))) (t : Fin 64)
    (p : Path) : KeepsClaims p.table (p.modifyEntry t f).table := by
  unfold Path.modifyEntry
  split
  · next e he => exact .set (he ▸ hf e)
  · exact .refl _
  · exact .refl _

/-- A response decided (R102). -/
theorem keepsClaims_answer (t : Fin 64) (a : HostAnswer) (p : Path) : KeepsClaims p.table (p.answer t a).table :=
  keepsClaims_modifyEntry (f := fun e => { e with state := .answering, response := some a }) (fun _ => .used rfl rfl) t p

/-- Releases of held writes, one after another. -/
theorem keepsClaims_foldl {release : Path → HeldRecord → Path}
    (hone : ∀ p r, KeepsClaims p.table (release p r).table) (rs : List HeldRecord) (p : Path) :
    KeepsClaims p.table (rs.foldl release p).table := by
  induction rs generalizing p with
  | nil => exact .refl _
  | cons r rs ih => exact (hone p r).trans (ih _)

/-- The held writes released by policy, and the capture links dropped (R63, R100). -/
theorem keepsClaims_releasedPath (s : State) : KeepsClaims s.path.table (releasedPath s).table := by
  have hone : ∀ p r, KeepsClaims p.table (releaseOne p r).table := fun p r => by
    unfold releaseOne
    split
    · exact keepsClaims_answer r.track _ p
    · exact keepsClaims_modifyEntry (f := fun e => { e with rule := some (policyRule r.policy) })
        (fun _ => .used rfl rfl) r.track p
  refine (keepsClaims_foldl hone s.held s.path).trans (.map (fun x => ?_) _)
  cases x with
  | used e => exact ⟨rfl, .inr rfl⟩
  | free => exact .refl _
  | stale _ _ => exact .refl _

/-- After the journal is emptied as a whole no capture link stands (R99, R100). -/
theorem releasedPath_uncaptured (s : State) (t : Fin 64) : slotCapture (releasedPath s).table[t] = none := by
  simp only [releasedPath, Path.dropCaptures, Fin.getElem_fin, Vector.getElem_map]
  split <;> rfl

/-- The writes that wait for their forward event made unsettled (R82). -/
theorem keepsClaims_unsettle (p : Path) : KeepsClaims p.table p.unsettle.table := by
  refine .map (fun x => ?_) _
  cases x with
  | used e => exact .used rfl rfl
  | free => exact .refl _
  | stale _ _ => exact .refl _

/-! ### The events -/

/-- The journal with a write's pledge given up, if it has one (R6, R58). -/
def pledgeGiven (e : TrackEntry) (j : Journal) : Journal :=
  { j with pledges := if e.pledge then j.pledges - 1 else j.pledges }

/-- What can happen on the mirroring side at once. -/
inductive MirrorEvent (a : MirrorSide) : MirrorSide → Prop where
  -- the memory path (R6, R9, R13, R14, R30 to R32, R60, R91, R99)
  | viewed (table : Vector TrackSlot 64) (held : List HeldRecord) (htable : KeepsClaims a.table table)
      (hheld : held.length ≤ a.held.length) : MirrorEvent a { a with table := table, held := held }
  | taken (t : Fin 64) (e : TrackEntry) (hfree : a.table[t] = .free) (hcapture : e.capture = none)
      (hroom : e.pledge = true → 1 ≤ a.journal.freeEntries ∧ 1 ≤ a.journal.freeSlots
        ∧ a.held.length + a.journal.pledges < 32) :
      MirrorEvent a { a with
        table := a.table.set t (.used e),
        journal := { a.journal with pledges := a.journal.pledges + if e.pledge then 1 else 0 } }
  | settled (t : Fin 64) (e e' : TrackEntry) (ht : a.table[t] = .used e) (hpledge : e'.pledge = false)
      (hcapture : e'.capture = none) :
      MirrorEvent a { a with table := a.table.set t (.used e'), journal := pledgeGiven e a.journal }
  | captured (t : Fin 64) (e e' : TrackEntry) (b : EntryBody) (held : List HeldRecord) (ht : a.table[t] = .used e)
      (hpledge : e'.pledge = false) (hcapture : e'.capture = some a.journal.nextId)
      (hstate : a.mirror.state = .streaming ∨ a.mirror.state = .catchup)
      (hroom : (e.pledge = true ∧ entrySlots b ≤ 1 ∧ held.length ≤ a.held.length + 1)
        ∨ (1 ≤ (pledgeGiven e a.journal).freeEntries ∧ entrySlots b ≤ (pledgeGiven e a.journal).freeSlots
          ∧ (held.length ≤ a.held.length ∨ held.length + (pledgeGiven e a.journal).pledges ≤ 32))) :
      MirrorEvent a { a with
        table := a.table.set t (.used e'), held := held,
        journal := (pledgeGiven e a.journal).append b (.awaiting t) }
  | confirmed (t : Fin 64) (e : TrackEntry) (id : Nat) (ht : a.table[t] = .used e) (hcapture : e.capture = some id) :
      MirrorEvent a { a with
        table := a.table.set t (.used { e with capture := none }), journal := a.journal.confirm id }
  | voided (t : Fin 64) (e : TrackEntry) (id : Nat) (ht : a.table[t] = .used e) (hcapture : e.capture = some id) :
      MirrorEvent a { a with
        table := a.table.set t (.used { e with capture := none }), journal := a.journal.void id }
  -- the dirty page map (R29, R33, R36, R49)
  | touched (p : Nat) : MirrorEvent a { a with mirror := a.mirror.touch p }
  | marked (p : Nat) (hon : a.mirror.state ≠ .off) : MirrorEvent a { a with mirror := a.mirror.mark p }
  | caughtUp (hstate : a.mirror.state = .streaming ∨ a.mirror.state = .catchup) :
      MirrorEvent a { a with mirror := a.mirror.setCatchup }
  | counted (n : Nat) : MirrorEvent a { a with mirror := { a.mirror with drainCount := n } }
  -- the sweep (R7, R8, R11, R12, R37 to R42)
  | picked (hcopying : a.mirror.copying = none) (hruns : a.mirror.sweepRuns = true) :
      MirrorEvent a { a with mirror := a.mirror.pick }
  | issued (c : Copying) (i : Fin 32) (hcopying : a.mirror.copying = some c) (hruns : a.mirror.sweepRuns = true)
      (hnone : a.journal.reservation = none) (hroom : 1 ≤ a.journal.freeEntries ∧ 4 ≤ a.journal.freeSlots) :
      MirrorEvent a { a with journal := { a.journal with
        reservation := some { page := c.page, chunk := c.next, region := i, cancelled := false, answers := [] } } }
  | lineAnswered (rv : Reservation) (answers : List LineAnswer) (hrv : a.journal.reservation = some rv) :
      MirrorEvent a { a with journal := { a.journal with reservation := some { rv with answers := answers } } }
  | chunkDropped : MirrorEvent a { a with journal := { a.journal with reservation := none } }
  | chunkFaulted (rv : Reservation) (hrv : a.journal.reservation = some rv) (hstands : rv.cancelled = false) :
      MirrorEvent a { a with
        journal := { a.journal with reservation := none },
        mirror := ({ a.mirror with
          copying := none, marks := a.mirror.marks.filter (fun p => p ≠ rv.page),
          skipped := addSat Config.countTop a.mirror.skipped 1 } : Mirror).cursorPast rv.page }
  | chunkAppended (rv : Reservation) (bytes : List Byte) (hrv : a.journal.reservation = some rv)
      (hstands : rv.cancelled = false) :
      MirrorEvent a { a with
        journal := ({ a.journal with reservation := none } : Journal).append
          (.page rv.page rv.chunk rv.region bytes) .ready }
  | nextChunk (c : Copying) (hcopying : a.mirror.copying = some c) (hnone : a.journal.reservation = none) :
      MirrorEvent a { a with mirror := { a.mirror with copying := some { c with next := c.next + 1 } } }
  | recopied (c : Copying) (hcopying : a.mirror.copying = some c) (hnone : a.journal.reservation = none) :
      MirrorEvent a { a with mirror := ({ a.mirror with copying := none } : Mirror).cursorPast c.page }
  | pageCopied (c : Copying) (hcopying : a.mirror.copying = some c) (hnone : a.journal.reservation = none) :
      MirrorEvent a { a with mirror := ({ a.mirror with
        copying := none, marks := a.mirror.marks.filter (fun p => p ≠ c.page),
        copied := addSat Config.countTop a.mirror.copied 1 } : Mirror).cursorPast c.page }
  | doneAppended (hruns : a.mirror.sweepRuns = true) (hmarks : a.mirror.marks = [])
      (hnone : a.journal.reservation = none) (hroom : 1 ≤ a.journal.freeEntries) :
      MirrorEvent a { a with
        journal := a.journal.append (.done a.mirror.copied a.mirror.skipped) .ready,
        mirror := { a.mirror with
          copied := 0, skipped := 0, catchupActive := false,
          state := if a.mirror.state = .catchup then .streaming else a.mirror.state } }
  -- sending and acknowledgement (R17 to R21)
  | sent (k : JTake) (hk : a.journal.take a.window = some k) : MirrorEvent a { a with journal := k.journal }
  | rewound (i : Nat) (hi : ∃ e, a.journal.entries[i]? = some e ∧ e.isSent = true) :
      MirrorEvent a { a with journal := { a.journal with sendPoint := i } }
  | removed (d : Nat) (hd : d ≤ a.journal.sentCount) : MirrorEvent a { a with journal := a.journal.removeOldest d }
  -- the mirror state (R23, R24, R25, R28, R34, R43 to R49)
  | startedFull (pages : List Nat) (hoff : a.mirror.state = .off) :
      MirrorEvent a { a with
        journal := { a.journal with lastSeq := none },
        mirror := { a.mirror.markAll pages with
          catchupActive := true, cleanArmed := false, cursor := 0, passCount := 0, copied := 0, skipped := 0,
          drainCount := 0, state := .linking } }
  | startedClean (hoff : a.mirror.state = .off) :
      MirrorEvent a { a with
        journal := { a.journal with lastSeq := none },
        mirror := { a.mirror with
          catchupActive := false, cleanArmed := true, cursor := 0, passCount := 0, copied := 0, skipped := 0,
          drainCount := 0, state := .linking } }
  | relinked (hstate : a.mirror.state = .tracking) :
      MirrorEvent a { a with
        journal := { a.journal with lastSeq := none }, mirror := { a.mirror with state := .linking } }
  | accepted (hstate : a.mirror.state = .linking) :
      MirrorEvent a { a with mirror := { a.mirror with
        state := if a.mirror.catchupActive then .catchup else .streaming, cleanArmed := false } }
  | attemptLost (hstate : a.mirror.state = .linking) :
      MirrorEvent a { a with mirror := { a.mirror.setCatchup with state := .tracking, cleanArmed := false } }
  | converted (marks : List Nat) (copied skipped cursor passCount : Nat)
      (hstate : a.mirror.state = .streaming ∨ a.mirror.state = .catchup)
      (hmarks : a.mirror.marks.Pairwise (· < ·) → marks.Pairwise (· < ·))
      (huncaptured : ∀ t : Fin 64, slotCapture a.table[t] = none) :
      MirrorEvent a { a with
        journal := a.journal.empty,
        mirror := { a.mirror with
          state := .tracking, catchupActive := true, copying := none, marks := marks, copied := copied,
          skipped := skipped, cursor := cursor, passCount := passCount } }
  | stopped (huncaptured : ∀ t : Fin 64, slotCapture a.table[t] = none) :
      MirrorEvent a { a with journal := a.journal.empty, mirror := a.mirror.toOff }
  | drainBegun (ms : Nat) (hstate : a.mirror.state = .streaming ∨ a.mirror.state = .catchup) :
      MirrorEvent a { a with mirror := { a.mirror with
        state := .draining, drainCount := 0, drainTimer := some ms } }
  | windowWritten (w : Nat) (hoff : a.mirror.state = .off) : MirrorEvent a { a with window := w }
  | reset (table : Vector TrackSlot 64) (w : Nat)
      (hunused : ∀ t : Fin 64, slotPledged table[t] = false ∧ slotCapture table[t] = none) :
      MirrorEvent a
        { mirror := Mirror.reset, journal := Journal.reset, table := table, held := [], window := w }

/-- What can happen on the mirroring side in one step: events one after the other. Where the mirror state in which a step finds
the part is known from the agreement of the blocks, a change of the mirror block or of the window is an event under that
agreement. -/
inductive MirrorRun (agree : Prop) (a : MirrorSide) : MirrorSide → Prop where
  | refl : MirrorRun agree a a
  | tail {b c : MirrorSide} (hrun : MirrorRun agree a b) (hlast : MirrorEvent b c) : MirrorRun agree a c
  | agreed {b : MirrorSide} (m : Mirror) (w : Nat) (hrun : MirrorRun agree a b)
      (hlast : agree → MirrorEvent b { b with mirror := m, window := w }) :
      MirrorRun agree a { b with mirror := m, window := w }

/-- One event is a run. -/
theorem MirrorRun.single {agree : Prop} {a b : MirrorSide} (h : MirrorEvent a b) : MirrorRun agree a b :=
  .tail .refl h

/-- A run in a part whose blocks agree, after a run that keeps their agreement. -/
theorem MirrorRun.trans {agree agree' : Prop} {a b c : MirrorSide} (h : MirrorRun agree a b) (himp : agree → agree')
    (hnext : MirrorRun agree' b c) : MirrorRun agree a c := by
  induction hnext with
  | refl => exact h
  | tail _ hlast ih => exact ih.tail hlast
  | agreed m w _ hlast ih => exact ih.agreed m w fun hagree => hlast (himp hagree)

end Sys2Proof.Proofs
end

section
/-! PROOFS. What a step can do to the blocks that the invariants of the mirroring side read: it keeps their agreement, and it comes
to events of the mirroring side. The memory path's and the sweep's own steps (chapters 1 to 3, 5). -/
namespace Sys2Proof.Proofs

open Sys2Proof.Machine Sys2Proof.Safety

/-- A step keeps the agreement of the blocks and comes to events of the mirroring side. -/
structure Steps (s t : State) : Prop where
  agrees : (standing s).Ok → (standing t).Ok
  run : MirrorRun (standing s).Ok (mirrorSide s) (mirrorSide t)

/-- What the agreement of the blocks and the events of the mirroring side read of the part. -/
def outline (s : State) : Standing × MirrorSide :=
  (standing s, mirrorSide s)

/-- An effect that leaves the agreement and the mirroring side unread. -/
abbrev KeepsOutline (f : State → State) : Prop :=
  ∀ s : State, outline (f s) = outline s

section
variable {s t u : State}

/-- Nothing that is read changes. -/
theorem Steps.of_outline (h : outline t = outline s) : Steps s t := by
  obtain ⟨hstands, hside⟩ := Prod.mk.inj h
  exact ⟨fun hok => hstands ▸ hok, hside ▸ .refl⟩

/-- Nothing changes. -/
theorem Steps.refl (s : State) : Steps s s := .of_outline rfl

/-- One effect after another. -/
theorem Steps.trans (h : Steps s t) (hnext : Steps t u) : Steps s u :=
  ⟨fun hok => hnext.agrees (h.agrees hok), h.run.trans h.agrees hnext.run⟩

/-- An effect on the mirroring side that leaves the blocks where they stand. -/
theorem Steps.event (hstands : standing t = standing s) (h : MirrorEvent (mirrorSide s) (mirrorSide t)) : Steps s t :=
  ⟨fun hok => hstands ▸ hok, .single h⟩

/-- An effect that leaves the mirroring side as it is. -/
theorem Steps.stands (hside : mirrorSide t = mirrorSide s) (h : (standing s).Ok → (standing t).Ok) : Steps s t :=
  ⟨h, hside ▸ .refl⟩

/-- An effect that is seen in the memory path and the held list alone, and keeps the claims of tracking entries. -/
theorem Steps.viewed (hstands : standing t = standing s) (hmirror : t.mirror = s.mirror) (hjournal : t.journal = s.journal)
    (hparams : t.params = s.params) (htable : KeepsClaims s.path.table t.path.table)
    (hheld : t.held.length ≤ s.held.length) : Steps s t := by
  refine .event hstands ?_
  have hside : mirrorSide t = { mirrorSide s with table := t.path.table, held := t.held } := by
    simp only [mirrorSide, hmirror, hjournal, param, hparams]
  rw [hside]
  exact .viewed _ _ htable hheld

end

/-- An effect that leaves them unread. -/
theorem KeepsOutline.moves {f : State → State} (h : KeepsOutline f) : Moves Steps f :=
  fun s => .of_outline (h s)

/-- A line replaced (R142). -/
@[simp] theorem outline_withLine (l : LineId) (x : Line) : KeepsOutline (withLine l x) := fun s => by
  cases l <;> rfl

/-- Lines and counters are not read. -/
theorem stepRelation_steps : StepRelation Steps where
  refl := .refl
  line l x s t h := by
    obtain ⟨hagrees, hrun⟩ := h
    cases l <;> exact ⟨hagrees, hrun⟩
  bump _ _ := .of_outline rfl

/-- A step of the running part that leaves them unread (R104). -/
theorem KeepsOutline.live {f : State → State} (h : KeepsOutline f) : StepMoves Steps (Machine.live f) :=
  stepRelation_steps.live h.moves

/-- A step of the running part that leaves them unread, under a condition (R104). -/
theorem KeepsOutline.liveWhen {f : State → State} (h : KeepsOutline f) (c : State → Prop) [∀ s, Decidable (c s)] :
    StepMoves Steps (Machine.live (fun s => if c s then f s else s)) :=
  stepRelation_steps.live (stepRelation_steps.when h.moves c)

/-- A report to the exception list (R176). -/
@[simp] theorem outline_report (k : ExceptionKind) (src : Option Byte) (a : LineAddr) (i : Option (Fin 32)) :
    KeepsOutline (report k src a i) := fun s => by
  rw [report_frame]
  rfl

/-! ### The take -/

/-- A head of intake taken into a free tracking entry: refused, or queued with the pledge for which there is room (R6, R75, R90,
R91). -/
theorem takeInto_steps {t : Fin 64} {req : HostRequest} {s : State} (ht : s.path.table[t] = .free)
    (hroom : lacksPledgeRoom req s = false) : Steps s (takeInto t req s) := by
  have hrefused (cls : Option ReqClass) : Steps s (refuseTake t (newEntry req cls s.role false) s) := by
    rw [refuseTake_eq]
    exact .event rfl (.taken (a := mirrorSide s) t
      { newEntry req cls s.role false with response := some (errorAnswer req.kind), state := .answering } ht rfl nofun)
  have hqueued (cls : Option ReqClass) (pledge : Bool) (hpledge : pledge = true →
      1 ≤ s.journal.freeEntries ∧ 1 ≤ s.journal.freeSlots ∧ s.held.length + s.journal.pledges < 32) :
      Steps s (queueTake t (newEntry req cls s.role pledge)
        (s.withJournal { s.journal with pledges := s.journal.pledges + if pledge then 1 else 0 })) :=
    .event rfl (.taken t (newEntry req cls s.role pledge) ht rfl hpledge)
  unfold takeInto
  dsimp only
  split
  · exact (hrefused _).trans (.of_outline (outline_report ..))
  · next hsrc =>
    split
    · unfold reportRefusal
      split
      · exact (hrefused _).trans (.of_outline (outline_report ..))
      · exact (hrefused _).trans (.of_outline (outline_report ..))
      · exact hrefused _
      · exact hrefused _
    · split
      · next hpledged =>
        refine hqueued _ true fun _ => Decidable.byContradiction fun hnone => ?_
        rw [(lacksPledgeRoom_iff req s).2 ⟨hsrc, hpledged, hnone⟩] at hroom
        cases hroom
      · exact hqueued _ false nofun

/-- The head of intake taken if it can be (R90). -/
theorem takeHead_steps : Moves Steps takeHead := fun s => by
  unfold takeHead
  split
  · next req rest t hi hf =>
    split
    · exact .refl s
    · next hroom =>
      have hpopped : Steps s (s.withPath { s.path with intake := rest }) := .of_outline rfl
      exact hpopped.trans (takeInto_steps (freeEntry_free hf) (by simpa using hroom))
  · exact .refl s

/-- HOST_REQUEST_TAKE (R90, R91, R104). -/
theorem execHostRequestTake_steps (presented : Option HostRequest) : StepMoves Steps (execHostRequestTake presented) := by
  refine Moves.next fun s => ?_
  have hpresented : Steps s (s.withPath (s.path.present presented)) := .of_outline rfl
  exact hpresented.trans (stepRelation_steps.when takeHead_steps (fun s => s.phase = .running) _)

/-! ### The grant -/

/-- The part after the forward event of a write with a capture decision (R96). -/
def granted (t : Fin 64) (rest : List (Fin 64)) (e : TrackEntry) (c : Captured) : State :=
  c.state.withPath (c.state.path.grantHost t rest e { e with
    req := { e.req with data := [] }, pledge := false, unsettled := false, capture := c.capture, rule := some c.rule,
    state := .inMemory })

/-- A mark leaves the drain timer as it is (R36). -/
theorem mark_drainTimer (p : Nat) (m : Mirror) : (m.mark p).drainTimer = m.drainTimer := by
  unfold Machine.Mirror.mark
  dsimp only
  split <;> rfl

/-- A page marked outside OFF (R29, R36). -/
theorem marked_steps (p : Nat) {s : State} (hon : s.mirror.state ≠ .off) : Steps s (s.withMirror (s.mirror.mark p)) := by
  refine ⟨fun hok => ?_, .single (.marked p hon)⟩
  have hstands : standing (s.withMirror (s.mirror.mark p)) =
      { standing s with mirror := if s.mirror.state = .streaming then .catchup else s.mirror.state } := by
    simp only [standing, State.withMirror, Mirror.mark_state, mark_drainTimer]
  rw [hstands]
  exact hok.marked

/-- A copy of a page under way that is to be made again (R36). -/
theorem touched_steps (p : Nat) (s : State) : Steps s (s.withMirror (s.mirror.touch p)) :=
  .event rfl (.touched p)

/-- A write counted as uncaptured (R49, R50, R55). -/
theorem countUncaptured_steps : Moves Steps countUncaptured := fun _ =>
  .event rfl (.counted _)

/-- A pledge given up (R6, R58). -/
theorem givePledge_eq (e : TrackEntry) (s : State) : givePledge e s = s.withJournal (pledgeGiven e s.journal) :=
  givePledge_frame e s

/-- Room for a DATA entry without a pledge (R7). -/
theorem roomForData_iff (j : Journal) : j.roomForData = true ↔ 1 ≤ j.freeEntries ∧ 1 ≤ j.freeSlots :=
  decide_eq_true_iff

section
variable {s : State} {t : Fin 64} {e : TrackEntry} (ht : s.path.table[t] = .used e) (rest : List (Fin 64))
include ht

/-- The forward event of a write that leaves the journal as it is but for the pledge given up, whatever it reports and counts
(R6, R30 to R32). -/
theorem granted_settled (u : State) (hpath : u.path = s.path)
    (h : outline u = outline (s.withJournal (pledgeGiven e s.journal))) (rule : CompletionRule) :
    Steps s (granted t rest e { state := u, capture := none, rule := rule }) := by
  obtain ⟨hstands, hside⟩ := Prod.mk.inj h
  refine .event hstands ?_
  have hpost : mirrorSide (granted t rest e { state := u, capture := none, rule := rule }) = { mirrorSide u with
      table := s.path.table.set t (.used { e with
        req := { e.req with data := [] }, pledge := false, unsettled := false, capture := none, rule := some rule,
        state := .inMemory }) } := by
    rw [← hpath]
    rfl
  rw [hpost, hside]
  exact .settled (a := mirrorSide s) t e _ ht rfl rfl

/-- The forward event of a write that becomes a journal entry (R6, R9, R10, R60). -/
theorem granted_captured (hstate : s.mirror.state = .streaming ∨ s.mirror.state = .catchup) (b : EntryBody)
    (held : List HeldRecord) (rule : CompletionRule)
    (hroom : (e.pledge = true ∧ entrySlots b ≤ 1 ∧ held.length ≤ s.held.length + 1)
      ∨ (1 ≤ (pledgeGiven e s.journal).freeEntries ∧ entrySlots b ≤ (pledgeGiven e s.journal).freeSlots
        ∧ (held.length ≤ s.held.length ∨ held.length + (pledgeGiven e s.journal).pledges ≤ 32))) :
    Steps s (granted t rest e {
      state := (s.withJournal ((pledgeGiven e s.journal).append b (.awaiting t))).withHeld held,
      capture := some s.journal.nextId, rule := rule }) :=
  .event rfl (.captured (a := mirrorSide s) t e _ b held ht rfl rfl hstate hroom)

/-- The forward event of a write that only gives its pledge up (R6, R31, R58). -/
theorem granted_plain (rule : CompletionRule) : Steps s (granted t rest e {
    state := s.withJournal (pledgeGiven e s.journal), capture := none, rule := rule }) :=
  granted_settled ht rest (s.withJournal (pledgeGiven e s.journal)) rfl rfl rule

/-- The forward event of a write that is counted as uncaptured (R30 to R32, R49). -/
theorem granted_counted (rule : CompletionRule) : Steps s (granted t rest e {
    state := countUncaptured (s.withJournal (pledgeGiven e s.journal)), capture := none, rule := rule }) :=
  (granted_plain ht rest rule).trans (countUncaptured_steps _)

/-- A write whose page is marked instead (R30, R31). -/
theorem granted_markInstead (hon : s.mirror.state ≠ .off) (p : Policy) :
    Steps s (granted t rest e (markInstead e p (s.withJournal (pledgeGiven e s.journal)))) :=
  (granted_plain ht rest (unheldRule p)).trans (marked_steps (pageOf e.req.addr) hon)

/-- The capture of a mirror write in STREAMING or CATCHUP (R30, R31, R60). -/
theorem granted_captureStreaming (hstate : s.mirror.state = .streaming ∨ s.mirror.state = .catchup) (i : Fin 32)
    (p : Policy) : Steps s (granted t rest e (captureStreaming t e i p (s.withJournal (pledgeGiven e s.journal)))) := by
  have hon : s.mirror.state ≠ .off := by rcases hstate with h | h <;> simp [h]
  have happended (held : Bool) (records : List HeldRecord) (rule : CompletionRule) (hroom) :=
    (granted_captured ht rest hstate (.data e.req.addr e.req.be e.req.data i held) records rule hroom).trans
      (touched_steps (pageOf e.req.addr) _)
  unfold captureStreaming
  split
  · split
    · next hroom =>
      obtain ⟨hentries, hslots⟩ := (roomForData_iff _).1 hroom
      exact happended false s.held .asMemory (.inr ⟨hentries, hslots, .inl (Nat.le_refl _)⟩)
    · exact granted_markInstead ht rest hon p
  · next q _ =>
    split
    · next hplace =>
      refine happended true (s.held ++ [_]) .held ?_
      rw [Bool.or_eq_true, Bool.and_eq_true] at hplace
      rcases hplace with hpledge | ⟨hroom, hfree⟩
      · exact .inl ⟨hpledge, Nat.le_refl 1, by simp⟩
      · obtain ⟨hentries, hslots⟩ := (roomForData_iff _).1 hroom
        refine .inr ⟨hentries, hslots, .inr ?_⟩
        have hlt : s.held.length + (pledgeGiven e s.journal).pledges < 32 := of_decide_eq_true hfree
        rw [List.length_append, List.length_singleton]
        omega
    · exact granted_markInstead ht rest hon p

/-- The capture decision of a mirror write (R30, R31). -/
theorem granted_captureMirror (i : Fin 32) (p : Policy) :
    Steps s (granted t rest e (captureMirror t e i p (s.withJournal (pledgeGiven e s.journal)))) := by
  unfold captureMirror
  cases hm : (s.withJournal (pledgeGiven e s.journal)).mirror.state with
  | off => exact granted_plain ht rest _
  | linking | tracking => exact granted_markInstead ht rest (fun h => nomatch hm.symm.trans h) p
  | streaming => exact granted_captureStreaming ht rest (.inl hm) i p
  | catchup => exact granted_captureStreaming ht rest (.inr hm) i p
  | draining => exact granted_counted ht rest _

/-- The capture decision of a signal write (R10, R32). -/
theorem granted_captureSignal (i : Fin 32) :
    Steps s (granted t rest e (captureSignal t e i (s.withJournal (pledgeGiven e s.journal)))) := by
  have hmark (hstate : s.mirror.state = .streaming ∨ s.mirror.state = .catchup) :
      Steps s (granted t rest e (captureMark t e i (s.withJournal (pledgeGiven e s.journal)))) := by
    unfold captureMark
    split
    · next hroom =>
      exact granted_captured ht rest hstate (.mark e.req.addr (markerValue e.req.data) i) s.held _
        (.inr ⟨of_decide_eq_true hroom, Nat.zero_le _, .inl (Nat.le_refl _)⟩)
    · exact granted_settled ht rest (bump .markersDropped (s.withJournal (pledgeGiven e s.journal))) rfl rfl _
  unfold captureSignal
  split
  · cases hm : (s.withJournal (pledgeGiven e s.journal)).mirror.state with
    | off => exact granted_plain ht rest _
    | linking | tracking =>
      exact granted_settled ht rest (bump .markersDropped (s.withJournal (pledgeGiven e s.journal))) rfl rfl _
    | streaming => exact hmark (.inl hm)
    | catchup => exact hmark (.inr hm)
    | draining => exact granted_counted ht rest _
  · exact granted_settled ht rest _ (by rw [report_frame]; rfl) (outline_report ..) _

/-- The grant of a write is its forward event with the capture decision, after the pledge is given up (R6, R96). -/
theorem grantHost_granted (hk : e.req.kind = .write) :
    grantHost t rest s = granted t rest e (captureWrite t e (s.withJournal (pledgeGiven e s.journal))) := by
  have hpath := captureWrite_path t e (givePledge e s)
  rw [givePledge_eq] at hpath
  rw [grantHost_write ht hk, givePledge_eq]
  unfold granted
  rw [hpath]
  rfl

/-- The grant of a write (R96). -/
theorem grantHost_write_steps (hk : e.req.kind = .write) : Steps s (grantHost t rest s) := by
  rw [grantHost_granted ht rest hk]
  unfold captureWrite
  split
  · exact granted_captureMirror ht rest _ _
  · exact granted_captureSignal ht rest _
  · exact granted_plain ht rest _

end

/-- The oldest request of the host queue granted (R95, R96). -/
theorem grantHost_steps (t : Fin 64) (rest : List (Fin 64)) : Moves Steps (grantHost t rest) := fun s => by
  cases ht : s.path.table[t] with
  | used e =>
    cases hk : e.req.kind with
    | read =>
      simp only [grantHost, ht, forward, hk]
      exact .viewed rfl rfl rfl rfl (.set (ht ▸ .used rfl rfl)) (Nat.le_refl _)
    | write => exact grantHost_write_steps ht rest hk
  | free =>
    simp only [grantHost, ht]
    exact .refl s
  | stale _ _ =>
    simp only [grantHost, ht]
    exact .refl s

/-- The arbiter's choice (R95). -/
theorem arbitrate_steps : Moves Steps arbitrate := fun s => by
  have hown (u : Fin 8) (us : List (Fin 8)) : Steps s (grantOwn u us s) := by
    unfold grantOwn
    split <;> exact .of_outline rfl
  unfold arbitrate
  split
  · exact .refl s
  · exact grantHost_steps _ _ s
  · exact hown _ _
  · split
    · exact hown _ _
    · exact grantHost_steps _ _ s

/-! ### Memory responses -/

/-- The journal told of the answer to a captured write, and the capture link dropped (R13, R14, R99). -/
theorem tellJournal_steps {t : Fin 64} {e : TrackEntry} {s : State} (ht : s.path.table[t] = .used e) (st : MemStatus) :
    Steps s (tellJournal t e st s) := by
  unfold tellJournal
  split
  · exact .refl s
  · next id hid =>
    rw [modifyEntry_used _ ht]
    cases st with
    | okay => exact .event rfl (.confirmed (a := mirrorSide s) t e id ht hid)
    | error => exact .event rfl (.voided (a := mirrorSide s) t e id ht hid)

/-- The response to a WRITE decided by its completion rule (R61, R99). -/
theorem decideWrite_steps (t : Fin 64) (rule : CompletionRule) (st : MemStatus) : Moves Steps (decideWrite t rule st) :=
  fun s => by
  have hanswered (a : HostAnswer) (held : List HeldRecord) (hheld : held.length ≤ s.held.length) :
      Steps s ((s.withHeld held).withPath (s.path.answer t a)) :=
    .viewed rfl rfl rfl rfl (keepsClaims_answer t a s.path) hheld
  unfold decideWrite
  split
  · exact hanswered _ s.held (Nat.le_refl _)
  · exact hanswered _ s.held (Nat.le_refl _)
  · exact .viewed rfl rfl rfl rfl
      (keepsClaims_modifyEntry (f := fun e => { e with state := .kept }) (fun _ => .used rfl rfl) t s.path)
      (by simp [keepHeld])
  · exact hanswered _ _ (List.length_filter_le _ _)

/-- A response with a host source (R97, R98, R99, R103). -/
theorem matchHost_steps (source : Byte) (t : Fin 64) (st : MemStatus) (data : List Byte) :
    Moves Steps (matchHost source t st data) := fun s => by
  unfold matchHost
  split
  · next e ht =>
    split
    · unfold hostAnswered
      split
      · exact .viewed rfl rfl rfl rfl (keepsClaims_answer t _ s.path) (Nat.le_refl _)
      · exact (tellJournal_steps ht st).trans (decideWrite_steps _ _ _ _)
    · exact .refl s
  · next src k ht =>
    split
    · exact .viewed rfl rfl rfl rfl (.set (ht ▸ ⟨rfl, .inl rfl⟩)) (Nat.le_refl _)
    · exact .refl s
  · exact .refl s

end Sys2Proof.Proofs
end

section
/-! PROOFS. What a step can do to the agreement of the blocks and to the mirroring side: the part's own requests, the sweep, the
replica apply unit, the link unit and the character layer (chapters 2, 6, 7, 8). -/
namespace Sys2Proof.Proofs

open Sys2Proof.Machine Sys2Proof.Safety

/-! ### Answers to the sweep -/

/-- The cursor moves without a change of the mirror state and of the drain timer (R40). -/
theorem cursorPast_stands (p : Nat) (m : Mirror) :
    (m.cursorPast p).state = m.state ∧ (m.cursorPast p).drainTimer = m.drainTimer := by
  unfold Mirror.cursorPast
  split <;> exact ⟨rfl, rfl⟩

/-- A chunk read whose four reads were answered OKAY: the PAGE entry in the reserved room, and then the sweep's advance (R11, R39,
R40). -/
theorem completeChunk_steps {s : State} {rv old : Reservation} (hrv : s.journal.reservation = some old)
    (hsame : old.page = rv.page ∧ old.chunk = rv.chunk ∧ old.region = rv.region) (hstands : old.cancelled = false) :
    Steps s (completeChunk rv s) := by
  obtain ⟨hpage, hchunk, hregion⟩ := hsame
  let t := s.withJournal (({ s.journal with reservation := none } : Journal).append
    (.page rv.page rv.chunk rv.region (chunkBytes rv.answers)) .ready)
  have happended : Steps s t := by
    refine .event rfl ?_
    have hevent := MirrorEvent.chunkAppended (a := mirrorSide s) old (chunkBytes rv.answers) hrv hstands
    rwa [hpage, hchunk, hregion] at hevent
  refine happended.trans ?_
  show Steps t (match t.mirror.copying with
    | some c => if rv.chunk = 15 then endCopy c t else t.withMirror { t.mirror with copying := some { c with next := c.next + 1 } }
    | none => t)
  split
  · next c hc =>
    split
    · unfold endCopy
      split
      · refine .event ?_ (.recopied (a := mirrorSide t) c hc rfl)
        simp only [standing, State.withMirror, cursorPast_stands]
      · refine .event ?_ (.pageCopied (a := mirrorSide t) c hc rfl)
        simp only [standing, bump, bumpBy_frame, State.withMirror, cursorPast_stands]
    · exact .event rfl (.nextChunk (a := mirrorSide t) c hc rfl)
  · exact .refl t

/-- A line read of a chunk answered (R8, R39, R41, R101). -/
theorem sweepAnswered_steps (line : Fin 4) (st : MemStatus) (data : List Byte) :
    Moves Steps (sweepAnswered line st data) := fun s => by
  unfold sweepAnswered
  split
  · exact .refl s
  · next rv hrv =>
    dsimp only
    split
    · exact .event rfl (.lineAnswered (a := mirrorSide s) rv _ hrv)
    · unfold endChunk
      split
      · exact .event rfl (.chunkDropped (a := mirrorSide s))
      · next hstands =>
        split
        · have hskipped : Steps s (bump .pagesSkipped ((dropReservation s).withMirror (({ s.mirror with
              copying := none, marks := s.mirror.marks.filter (fun p => p ≠ rv.page),
              skipped := addSat Config.countTop s.mirror.skipped 1 } : Mirror).cursorPast rv.page))) := by
            refine .event ?_ (.chunkFaulted (a := mirrorSide s) rv hrv (by simpa using hstands))
            simp only [standing, bump, bumpBy_frame, State.withMirror, cursorPast_stands, dropReservation,
              State.withJournal]
          exact hskipped.trans (.of_outline (outline_report ..))
        · exact completeChunk_steps hrv ⟨rfl, rfl, rfl⟩ (by simpa using hstands)

/-! ### The replica apply unit -/

/-- A change of the unit alone in which the replica state stays. -/
theorem outline_withReplica {s : State} {r : Replica} (h : r.state = s.replica.state) :
    outline (s.withReplica r) = outline s := by
  refine Prod.ext ?_ rfl
  simp only [outline, standing, State.withReplica, h]

/-- A session left, or LISTENING, by a unit outside OFF (R147, R149). -/
theorem leaveSession_steps (bye : Option ByeReason) {dest : ReplicaState} {s : State}
    (h : dest ≠ .off → s.replica.state ≠ .off) : Steps s (leaveSession bye dest s) :=
  .stands rfl fun hok => hok.replicaTurned fun hdest => hok.replicaOn (h hdest)

/-- The acknowledgement after a retirement leaves the replica state (R164). -/
theorem acknowledged_state (limit : Nat) (r : Replica) : (acknowledged limit r).state = r.state := by
  unfold acknowledged
  split
  · rfl
  · split <;> rfl

/-- A retirement (R163, R164). -/
theorem outline_retire (f : QueuedFrame) (rest : List QueuedFrame) : KeepsOutline (retire f rest) := fun s => by
  obtain ⟨m, c, heffect⟩ := retireEffect_replica f.body (s.withReplica (retired f rest s.replica))
  have hstate : (retire f rest s).replica.state = s.replica.state := by
    rw [retire_eq]
    dsimp only
    rw [acknowledged_state, heffect]
    rfl
  rw [retire_frame]
  exact outline_withReplica (s := s) hstate

/-- An apply write answered: a retirement, or an apply fault that leaves a session (R162, R168). -/
theorem applyAnswered_steps (a : LineAddr) (st : MemStatus) : Moves Steps (applyAnswered a st) := fun s => by
  cases hw : s.replica.applying with
  | none =>
    simp only [applyAnswered, hw]
    exact .refl s
  | some w =>
    have hidle : outline (s.withReplica { s.replica with applying := none }) = outline s := outline_withReplica rfl
    have hreported (b : LineAddr) : outline (alerted .applyFault (report .applyFault none b w.region
        ((s.withReplica { s.replica with applying := none }).withReplica
          { s.replica with applying := none, consistency := .broken }))) = outline s :=
      (outline_report .applyFault none b w.region _).trans (outline_withReplica (s := s) rfl)
    rw [applyAnswered_eq hw]
    split
    · cases errorAfter w a st with
      | none =>
        refine .of_outline ?_
        show outline (retireStarted _) = _
        unfold retireStarted
        split
        · split
          · exact (outline_retire _ _ _).trans hidle
          · exact hidle
        · exact hidle
      | some b =>
        show Steps s (applyFault b w.region _)
        rw [applyFault_eq]
        dsimp only
        refine (Steps.of_outline (hreported b)).trans ?_
        split
        · next hsession =>
          refine leaveSession_steps (some .applyFault) fun _ => ?_
          have hstate := congrArg (fun x => x.1.replica) (hreported b)
          simp only [outline, standing] at hstate
          rw [hstate]
          exact fun hoff => nomatch hoff.symm.trans hsession
        · exact .refl _
    · exact .of_outline (outline_withReplica rfl)

/-- A response with source 255 (R97, R101, R103). -/
theorem matchOwn_steps (tag : Fin 64) (st : MemStatus) (data : List Byte) : Moves Steps (matchOwn tag st data) := fun s => by
  have hfreed (u : Fin 8) : Steps s (s.withPath (s.path.freeOwn u)) := .of_outline rfl
  unfold matchOwn
  split
  · exact .refl s
  · split
    · unfold ownAnswered
      split
      · exact (hfreed _).trans (sweepAnswered_steps _ st data _)
      · exact (hfreed _).trans (applyAnswered_steps _ st _)
    · exact hfreed _
    · exact .refl s
    · exact .refl s

/-- MEMORY_RESPONSE (R97, R104). -/
theorem execMemoryResponse_steps (source : Byte) (tag : Fin 64) (st : MemStatus) (data : List Byte) :
    StepMoves Steps (execMemoryResponse source tag st data) := by
  refine Moves.next fun s => ?_
  split
  · exact matchOwn_steps tag st data s
  · exact matchHost_steps source tag st data s

/-- A HELLO judged outside OFF: a session is accepted, or the HELLO refused (R151, R152). -/
theorem judgeHello_steps (session : Byte) (h : HelloBody) {s : State} (hs : s.replica.state ≠ .off) :
    Steps s (judgeHello session h s) := by
  unfold judgeHello
  split
  · exact .of_outline (outline_withReplica rfl)
  · split
    · exact .of_outline (outline_withReplica rfl)
    · exact .stands rfl fun hok => hok.replicaTurned fun _ => hok.replicaOn hs

/-- A HELLO taken in LISTENING or SESSION (R151, R153, R154). -/
theorem helloArrived_steps (session : Byte) (h : HelloBody) : Moves Steps (helloArrived session h) := fun s => by
  unfold helloArrived
  split
  · next hs =>
    split
    · unfold helloAgain
      split
      · exact .refl s
      · exact .of_outline (outline_withReplica rfl)
    · exact (leaveSession_steps none fun _ => by simp [hs]).trans (judgeHello_steps session h nofun)
  · next hs => exact judgeHello_steps session h (by simp [hs])
  · exact .refl s

/-- HELLO_TAKEN (R150 to R154). -/
theorem execHelloTaken_steps (session : Byte) (h : HelloBody) : StepMoves Steps (execHelloTaken session h) := by
  refine stepRelation_steps.live fun s => ?_
  split
  · exact stepRelation_steps.takeFrame _ (helloArrived_steps session h) s
  · exact .refl s

/-- A gap noted (R157, R158, R164). -/
theorem outline_noteGap : KeepsOutline noteGap := fun s => by
  have hmarked : (gapMarked s.replica).state = s.replica.state := by
    unfold gapMarked
    split <;> rfl
  rw [noteGap_eq]
  refine outline_withReplica (s := s) ?_
  unfold gapSeen
  split <;> exact hmarked

/-- A sequenced frame of the session: only one outside the MIRROR regions leaves the session (R155 to R159). -/
theorem sequencedArrived_steps (n : SeqNum) (b : SeqBody) {s : State} (hs : s.replica.state = .session) :
    Steps s (sequencedArrived n b s) := by
  have hdiscarded (c : DiscardCause) : Steps s (discard c s) := .of_outline rfl
  have hgap (c : DiscardCause) : Steps s (noteGap (discard c s)) :=
    (hdiscarded c).trans (.of_outline (outline_noteGap _))
  have henqueue (i : Option (Fin 32)) : Steps s (enqueue n b i s) := by
    unfold enqueue
    split
    · exact .of_outline (outline_withReplica rfl)
    · exact hgap .overrun
  unfold sequencedArrived
  dsimp only
  split
  · unfold inOrder
    split
    · exact henqueue _
    · split
      · exact henqueue _
      · exact (hdiscarded .region).trans (leaveSession_steps (some .protocol) fun _ => by
          show s.replica.state ≠ .off
          simp [hs])
  · split
    · exact hgap .ahead
    · exact (hdiscarded .duplicate).trans (.of_outline (outline_withReplica rfl))

/-- SEQUENCED_FRAME_TAKEN (R150, R155). -/
theorem execSequencedFrameTaken_steps (session : Byte) (n : SeqNum) (b : SeqBody) :
    StepMoves Steps (execSequencedFrameTaken session n b) :=
  stepRelation_steps.live fun s => stepRelation_steps.takeFrameJudged _ (P := fun _ => True) (fun _ _ h => h)
    (fun _ _ htaken => sequencedArrived_steps n b (session_of_taken htaken)) (s := s) trivial

/-- REPLICA_BYE_TAKEN: the session is left for LISTENING (R169). -/
theorem execReplicaByeTaken_steps (session : Byte) (reason : ByeReason) :
    StepMoves Steps (execReplicaByeTaken session reason) := by
  refine stepRelation_steps.live fun s => ?_
  split
  · next hr =>
    refine stepRelation_steps.takeFrameJudged _ (P := fun s => s.role = .replica) (fun _ _ h => h)
      (fun t ht htaken => leaveSession_steps none fun _ hoff => ?_) hr
    rw [stateVerdict_replica_off _ ht hoff] at htaken
    cases htaken
  · exact .refl s

/-- The oldest unstarted frame started (R94, R162). -/
theorem startNext_steps : Moves Steps startNext := fun s => by
  have htable (rs : List OwnRequest) : (s.path.handOver rs).table = s.path.table := by
    rw [Path.handOver_frame]
  have hstarted (rs : List OwnRequest) (r : Replica) (hr : r.state = s.replica.state) :
      outline ((s.withReplica r).withPath (s.path.handOver rs)) = outline s := by
    refine Prod.ext ?_ ?_
    · simp only [outline, standing, State.withReplica, State.withPath, hr]
    · simp only [outline, mirrorSide, State.withReplica, State.withPath, htable]
      rfl
  unfold startNext
  split
  · split
    · unfold startFrame
      split
      · exact .of_outline (outline_retire ..)
      · split
        · exact .of_outline (hstarted _ _ rfl)
        · exact .refl s
    · exact .refl s
  · exact .refl s

/-- The oldest frame of the reply list begins (R165). -/
theorem outline_sendReply : KeepsOutline sendReply := fun s => by
  unfold sendReply
  split
  · exact outline_withReplica (s := s) rfl
  · rfl

/-- STOP NOW in the replica role (R148). -/
theorem stopReplica_steps : Moves Steps stopReplica := fun s => by
  unfold stopReplica
  split
  · exact leaveSession_steps _ nofun
  · exact .stands rfl fun hok => hok.replicaTurned nofun
  · exact .refl s

/-! ### The sweep -/

/-- SWEEP_PICK (R37). -/
theorem execSweepPick_steps : StepMoves Steps execSweepPick := by
  refine stepRelation_steps.live fun s => ?_
  split
  · next hpick =>
    rw [Bool.and_eq_true, Option.isNone_iff_eq_none] at hpick
    refine .event ?_ (.picked (a := mirrorSide s) hpick.2 hpick.1)
    simp only [standing, State.withMirror, Mirror.pick]
    split
    · rfl
    · split <;> rfl
  · exact .refl s

/-- CHUNK_READ_ISSUE (R7, R8, R38). -/
theorem execChunkReadIssue_steps : StepMoves Steps execChunkReadIssue := by
  refine stepRelation_steps.live fun s => ?_
  split
  · next c hc =>
    split
    · next hruns =>
      unfold issueChunk
      split
      · exact .refl s
      · next i _ =>
        split
        · next hroom =>
          rw [Bool.and_eq_true, Journal.roomForChunk, Bool.and_eq_true, Option.isNone_iff_eq_none] at hroom
          obtain ⟨⟨hnone, hfree⟩, -⟩ := hroom
          obtain ⟨hentries, hslots⟩ := of_decide_eq_true hfree
          refine .event rfl ?_
          have hevent := MirrorEvent.issued (a := mirrorSide s) c i hc hruns hnone
            ⟨hentries, Nat.le_trans (Nat.le_add_right _ _) hslots⟩
          have htable : (s.path.handOver (chunkReads c.page c.next.val)).table = s.path.table := by
            rw [Path.handOver_frame]
          simp only [mirrorSide, State.withJournal, State.withPath, htable]
          exact hevent
        · exact .refl s
    · exact .refl s
  · exact .refl s

/-- The sweep runs in CATCHUP and in DRAINING alone (R37). -/
theorem sweepRuns_state {m : Mirror} (h : m.sweepRuns = true) : m.state = .catchup ∨ m.state = .draining := by
  rw [Mirror.sweepRuns, Bool.or_eq_true, Bool.and_eq_true] at h
  rcases h with h | ⟨h, -⟩
  · exact .inl (eq_of_beq h)
  · exact .inr (eq_of_beq h)

/-- DONE_ENTRY_APPEND (R12, R42). -/
theorem execDoneEntryAppend_steps : StepMoves Steps execDoneEntryAppend := by
  refine stepRelation_steps.live fun s => ?_
  split
  · next hdone =>
    rw [Bool.and_eq_true, Bool.and_eq_true, Bool.and_eq_true, List.isEmpty_iff, Option.isNone_iff_eq_none] at hdone
    obtain ⟨⟨⟨hruns, hmarks⟩, hnone⟩, hroom⟩ := hdone
    refine ⟨fun hok => ?_, .single (.doneAppended (a := mirrorSide s) hruns hmarks hnone (of_decide_eq_true hroom))⟩
    show Standing.Ok { standing s with mirror := if s.mirror.state = .catchup then .streaming else s.mirror.state }
    split
    · next hcatchup =>
      refine hok.captures ?_ rfl
      show s.mirror.state.capturing = true
      rw [hcatchup]
      rfl
    · exact hok
  · exact .refl s

end Sys2Proof.Proofs
end

section
/-! PROOFS. What a step can do to the agreement of the blocks and to the mirroring side: the link unit with its timers, and the ends
of a session and of a drain (chapters 2, 3, 6). -/
namespace Sys2Proof.Proofs

open Sys2Proof.Machine Sys2Proof.Safety

/-! ### Stopping and the ends of a drain -/

/-- The journal and the map emptied without conversion, whatever else changes outside the mirroring side (R24, R34, R48). -/
theorem stops_steps {s t : State} (hside : mirrorSide t = { mirrorSide s with
      table := (releasedPath s).table, held := [], journal := emptied s.journal, mirror := s.mirror.toOff })
    (hstands : (standing s).Ok → (standing t).Ok) : Steps s t := by
  refine ⟨hstands, ?_⟩
  rw [hside]
  exact (MirrorRun.single (.viewed _ [] (keepsClaims_releasedPath s) (Nat.zero_le _))).tail
    (.stopped (releasedPath_uncaptured s))

/-- Where the blocks stand after STOP NOW in the primary role (R48). -/
theorem standing_stopPrimary (s : State) :
    standing (stopPrimary s) = (standing s).stopped s.port.slot s.port.responses.length := by
  rw [stopPrimary_eq]
  rfl

/-- The mirroring side after STOP NOW in the primary role (R24, R34, R48). -/
theorem mirrorSide_stopPrimary (s : State) : mirrorSide (stopPrimary s) = { mirrorSide s with
    table := (releasedPath s).table, held := [], journal := emptied s.journal, mirror := s.mirror.toOff } := by
  rw [stopPrimary_eq]
  rfl

/-- Where the blocks stand after the deferred response of STOP DRAIN (R51 to R53, R191). -/
theorem standing_endDrain (st : Status) (body : List Byte) (s : State) : standing (endDrain st body s) =
    { standing s with slot := none, responses := s.port.responses.length + 1 } := by
  rw [endDrain_frame, finishSlot_frame]
  simp only [standing, List.length_append, List.length_singleton]
  rfl

/-- A drain ended: OFF and IDLE, the slot free and the deferred response in its place (R51 to R53, R191). -/
theorem Standing.Ok.drainEnded {a : Standing} (h : a.Ok) (hd : a.mirror = .draining) :
    (a.stopped none (a.responses + 1)).Ok := by
  have hplaces := h.places
  rw [h.draining.1 hd] at hplaces
  exact h.stopped nofun nofun (by simpa using hplaces)

/-- A drain ended as STOP NOW does (R51, R53). -/
theorem endDrain_stopPrimary_steps (st : Status) (body : List Byte) {s : State}
    (hd : (standing s).Ok → s.mirror.state = .draining) : Steps s (endDrain st body (stopPrimary s)) := by
  refine stops_steps (mirrorSide_stopPrimary s) fun hok => ?_
  rw [standing_endDrain, standing_stopPrimary, stopPrimary_eq]
  exact hok.drainEnded (hd hok)

/-! ### A session or an attempt lost -/

/-- A session lost in STREAMING or CATCHUP: converted (R23, R46, R129). -/
theorem sessionLost_capturing_steps (cause : LossCause) {s : State}
    (h : s.mirror.state = .streaming ∨ s.mirror.state = .catchup) : Steps s (sessionLost cause s) := by
  have hmarks := convertEntries_pairwise s.journal.entries (conversionStart cause s)
  rw [sessionLost_capturing h, entriesConverted_mirror]
  refine ⟨fun hok => ?_, ?_⟩
  · have hon : s.mirror.state ≠ .off ∧ s.mirror.state ≠ .draining := by rcases h with h | h <;> simp [h]
    have hsession : s.link.state = .up := by
      have hsession := hok.session
      rcases h with h | h <;> simpa [standing, h, sessionOf] using hsession
    have hhello : s.link.helloTimer = none := hok.helloStopped fun h => nomatch hsession.symm.trans h
    exact (hok.tracking hon.1 hon.2 (param .relinkInterval s)).helloTimed (hello := s.link.helloTimer)
      (by rw [hhello]; nofun)
  · exact (MirrorRun.single (.viewed _ [] (keepsClaims_releasedPath s) (Nat.zero_le _))).tail
      (.converted _ _ _ _ _ h hmarks (releasedPath_uncaptured s))

/-- A session lost in UP (R46, R52, R129). -/
theorem sessionLost_steps (cause : LossCause) {s : State} (hup : s.link.state = .up) : Steps s (sessionLost cause s) := by
  have hlost (hsession : sessionOf s.mirror.state ≠ .up) : Steps s (linkLost cause s) :=
    .stands rfl fun hok => absurd (hok.session.symm.trans hup) hsession
  cases hm : s.mirror.state with
  | streaming => exact sessionLost_capturing_steps cause (.inl hm)
  | catchup => exact sessionLost_capturing_steps cause (.inr hm)
  | draining =>
    rw [sessionLost_draining cause s hm]
    refine stops_steps rfl fun hok => ?_
    have hstands : standing (drainLost cause s) = { (standing s).stopped none (s.port.responses.length + 1) with
        helloTimer := s.link.helloTimer, relinkTimer := s.link.relinkTimer } := by
      simp only [standing, drainLost, Standing.stopped, List.length_append, List.length_singleton]
      rfl
    have hhello : s.link.helloTimer = none := hok.helloStopped fun h => nomatch hup.symm.trans h
    have hrelink : s.link.relinkTimer = none := hok.relinkStopped fun h => nomatch hm.symm.trans h
    rw [hstands, hhello, hrelink]
    exact hok.drainEnded hm
  | off | linking | tracking =>
    simp only [sessionLost, hm]
    exact hlost (by rw [hm]; nofun)

/-- The retry counter compared with its limit in UP (R127). -/
theorem checkRetry_steps {s : State} (hup : s.link.state = .up) : Steps s (checkRetry s) := by
  unfold checkRetry
  split
  · exact sessionLost_steps _ hup
  · exact .refl s

/-- A frame placed in the control queue (R119). -/
theorem placed_steps (f : LinkFrame) (s : State) : Steps s (s.withLink (s.link.place f)) := .of_outline rfl

/-- A frame out of range in UP (R124). -/
theorem protocolLoss_steps {s : State} (hup : s.link.state = .up) : Steps s (protocolLoss s) :=
  (placed_steps _ s).trans (sessionLost_steps .protocol hup)

/-- An attempt lost in HELLO_WAIT (R45, R117, R118). -/
theorem attemptLost_steps (cause : LossCause) {s : State} (hwait : s.link.state = .helloWait) :
    Steps s (attemptLost cause s) := by
  refine ⟨fun hok => ?_, .agreed _ _ .refl fun hok => .attemptLost (hok.linking_of_helloWait hwait)⟩
  have hlinking := hok.linking_of_helloWait hwait
  have hack := hok.ackStopped fun h => nomatch hwait.symm.trans h
  have htracking := hok.tracking (by simp [hlinking]) (by simp [hlinking]) (param .relinkInterval s)
  exact htracking.ackTimed (ack := s.link.ackTimer) (by rw [show s.link.ackTimer = none from hack]; nofun)

/-! ### Entries removed and rewinds -/

/-- The oldest entries removed on an acknowledgement in UP (R21, R22, R62, R123). -/
theorem removeAcked_steps {d : Nat} {s : State} (hup : s.link.state = .up) (hd : d ≤ s.journal.sentCount) :
    Steps s (removeAcked d s) := by
  rw [removeAcked_eq]
  refine ⟨fun hok => hok.ackTimed fun ht => ⟨hup, ?_⟩, ?_⟩
  · dsimp only [removedOldest] at ht
    split at ht
    · next hsent => exact hsent.2
    · cases ht
  · exact (MirrorRun.single (.viewed _ _ (keepsClaims_foldl (fun p r => keepsClaims_answer r.track _ p) _ _)
      (List.length_filter_le _ _))).tail (.removed d hd)

/-- A send point put at a SENT entry (R19, R20). -/
theorem rewound_steps {found : JEntry → Bool} (hsent : ∀ e, found e = true → e.isSent = true) {i : Nat} {s : State}
    (hi : s.journal.entries.findIdx? found = some i) : Steps s (s.withJournal { s.journal with sendPoint := i }) := by
  obtain ⟨hlt, hfound, -⟩ := List.findIdx?_eq_some_iff_getElem.1 hi
  exact .event rfl (.rewound i ⟨_, List.getElem?_eq_getElem hlt, hsent _ hfound⟩)

/-- A rewind to the oldest SENT entry (R19). -/
theorem rewindOldest_steps (s : State) : Steps s (s.withJournal s.journal.rewindOldest) := by
  unfold Journal.rewindOldest
  split
  · next hi => exact rewound_steps (fun _ h => h) hi
  · exact .refl s

/-- A rewind to the entry that carries a sequence (R20). -/
theorem rewindTo_steps (n : SeqNum) (s : State) : Steps s (s.withJournal (s.journal.rewindTo n)) := by
  unfold Journal.rewindTo
  split
  · next hi =>
    refine rewound_steps (fun e h => ?_) hi
    rw [JEntry.isSent, eq_of_beq h]
    rfl
  · exact .refl s

/-- Retry counter, send count and cause are not read. -/
theorem retry_steps (n : Nat) (s : State) : Steps s (s.withLink { s.link with retry := n }) := .of_outline rfl

/-- An ACK taken in UP (R124, R125). -/
theorem ackArrived_steps (n : SeqNum) {s : State} (hup : s.link.state = .up) : Steps s (ackArrived n s) := by
  unfold ackArrived
  dsimp only
  split
  · exact protocolLoss_steps hup
  · next hrange =>
    split
    · exact .refl s
    · exact (removeAcked_steps hup (Nat.le_of_not_lt hrange)).trans (retry_steps 0 _)

/-- A NAK taken in UP (R124, R126). -/
theorem nakArrived_steps (n : SeqNum) {s : State} (hup : s.link.state = .up) : Steps s (nakArrived n s) := by
  unfold nakArrived
  dsimp only
  split
  · exact protocolLoss_steps hup
  · next hrange =>
    split
    · exact (rewindTo_steps n s).trans ((retry_steps _ _).trans (checkRetry_steps hup))
    · have hstill : (removeAcked (s.journal.ackDistance n) s).link.state = .up := by
        rw [removeAcked_eq]
        exact hup
      exact (removeAcked_steps hup (Nat.le_of_not_lt hrange)).trans
        ((rewindTo_steps n _).trans ((retry_steps _ _).trans (checkRetry_steps hstill)))

/-! ### Frames taken by the link unit -/

/-- A WELCOME is taken in HELLO_WAIT alone (R111, R116). -/
theorem helloWait_of_taken {session : Byte} {result : WelcomeResult} {s : State}
    (h : stateVerdict { session := session, body := .welcome result } s = none) : s.link.state = .helloWait := by
  unfold stateVerdict at h
  dsimp only at h
  split at h
  · split at h
    · cases h
    · split at h
      · assumption
      · cases h
  · split at h <;> cases h

/-- An ACK or a NAK is taken in UP alone (R111, R125, R126). -/
theorem up_of_taken {session : Byte} {b : FrameBody} {n : SeqNum} (hb : b = .ack n ∨ b = .nak n) {s : State}
    (h : stateVerdict { session := session, body := b } s = none) : s.link.state = .up := by
  unfold stateVerdict at h
  rcases hb with rfl | rfl <;>
  · dsimp only at h
    split at h
    · split at h
      · cases h
      · split at h
        · assumption
        · cases h
    · split at h <;> cases h

/-- A WELCOME of the current attempt (R116). -/
theorem welcomed_steps (result : WelcomeResult) {s : State} (hwait : s.link.state = .helloWait) :
    Steps s (welcomed result s) := by
  unfold welcomed
  split
  · split
    · exact (placed_steps _ s).trans (attemptLost_steps _ hwait)
    · have hcaptures : (if s.mirror.catchupActive then MirrorState.catchup else .streaming).capturing = true := by
        split <;> rfl
      exact ⟨fun hok => hok.accepted hwait hcaptures,
        .agreed _ _ .refl fun hok => .accepted (hok.linking_of_helloWait hwait)⟩
  · exact attemptLost_steps _ hwait
  · exact attemptLost_steps _ hwait

/-- WELCOME_TAKEN (R116). -/
theorem execWelcomeTaken_steps (session : Byte) (result : WelcomeResult) :
    StepMoves Steps (execWelcomeTaken session result) :=
  stepRelation_steps.live fun s => stepRelation_steps.takeFrameJudged _ (P := fun _ => True) (fun _ _ h => h)
    (fun _ _ htaken => welcomed_steps result (helloWait_of_taken htaken)) (s := s) trivial

/-- ACK_TAKEN (R124, R125). -/
theorem execAckTaken_steps (session : Byte) (n : SeqNum) : StepMoves Steps (execAckTaken session n) :=
  stepRelation_steps.live fun s => stepRelation_steps.takeFrameJudged _ (P := fun _ => True) (fun _ _ h => h)
    (fun _ _ htaken => ackArrived_steps n (up_of_taken (.inl rfl) htaken)) (s := s) trivial

/-- NAK_TAKEN (R124, R126). -/
theorem execNakTaken_steps (session : Byte) (n : SeqNum) : StepMoves Steps (execNakTaken session n) :=
  stepRelation_steps.live fun s => stepRelation_steps.takeFrameJudged _ (P := fun _ => True) (fun _ _ h => h)
    (fun _ _ htaken => nakArrived_steps n (up_of_taken (.inr rfl) htaken)) (s := s) trivial

/-- BYE_TAKEN (R117, R128). -/
theorem execByeTaken_steps (session : Byte) (reason : ByeReason) : StepMoves Steps (execByeTaken session reason) := by
  have hleft : Moves Steps (peerLeft reason) := fun s => by
    unfold peerLeft
    split
    · exact attemptLost_steps _ ‹_›
    · exact sessionLost_steps _ ‹_›
    · exact .refl s
  refine stepRelation_steps.live fun s => ?_
  split
  · exact stepRelation_steps.takeFrame _ hleft s
  · exact .refl s

/-- FRAME_DISCARDED (R111, R142). -/
theorem execFrameDiscarded_steps (d : Delivery) : StepMoves Steps (execFrameDiscarded d) := by
  refine stepRelation_steps.takeDeliveryRunning .link fun x s t _ ht => ?_
  split at ht
  · obtain ⟨c, -, rfl⟩ := Option.map_eq_some_iff.1 ht
    exact .of_outline rfl
  · cases ht

/-- HELLO_ROLE_CONFLICT (R131). -/
theorem execHelloRoleConflict_steps (session : Byte) : StepMoves Steps (execHelloRoleConflict session) := by
  have hconflict : Moves Steps (roleConflict session) := fun s => by
    unfold roleConflict
    dsimp only
    split <;> exact .of_outline rfl
  refine stepRelation_steps.live fun s => ?_
  split
  · refine stepRelation_steps.takeDelivery .link (fun d t u hu => ?_) s
    split at hu
    · cases hu
      exact hconflict t
    · cases hu
  · exact .refl s

/-! ### Timers -/

/-- HELLO_TIMER_EXPIRY (R115). -/
theorem execHelloTimerExpiry_steps : StepMoves Steps execHelloTimerExpiry := by
  have hstopped (s : State) : Steps s (s.withLink { s.link with helloTimer := none }) :=
    .stands rfl fun hok => hok.helloTimed nofun
  refine stepRelation_steps.live fun s => ?_
  split
  · next hwait =>
    rw [Bool.and_eq_true] at hwait
    have hlost : Steps s (attemptLost .noAnswer (s.withLink { s.link with helloTimer := none })) :=
      (hstopped s).trans (attemptLost_steps _ (eq_of_beq hwait.2))
    unfold helloExpired
    dsimp only
    split
    · split
      · exact (hstopped s).trans (.of_outline rfl)
      · exact hlost
    · exact hlost
  · exact .refl s

/-- ACK_TIMER_EXPIRY (R19, R127). -/
theorem execAckTimerExpiry_steps : StepMoves Steps execAckTimerExpiry := by
  refine stepRelation_steps.live fun s => ?_
  split
  · next hup =>
    rw [Bool.and_eq_true] at hup
    have hstopped : Steps (s.withJournal s.journal.rewindOldest) ((s.withJournal s.journal.rewindOldest).withLink
        { s.link with ackTimer := none, retry := s.link.retry + 1 }) :=
      .stands rfl fun hok => hok.ackTimed nofun
    exact (rewindOldest_steps s).trans (hstopped.trans (checkRetry_steps (eq_of_beq hup.2)))
  · exact .refl s

/-- HOLD_TIMER_EXPIRY (R122). -/
theorem execHoldTimerExpiry_steps : StepMoves Steps execHoldTimerExpiry := by
  have hexpired : Moves Steps holdExpired := fun s => by
    unfold holdExpired
    split
    · exact attemptLost_steps _ ‹_›
    · exact sessionLost_steps _ ‹_›
    · exact .refl s
  exact stepRelation_steps.live (stepRelation_steps.when hexpired _)

/-- RELINK_TIMER_EXPIRY (R45, R118). -/
theorem execRelinkTimerExpiry_steps : StepMoves Steps execRelinkTimerExpiry := by
  refine stepRelation_steps.live fun s => ?_
  split
  · next htracking =>
    rw [Bool.and_eq_true] at htracking
    have hstate : s.mirror.state = .tracking := eq_of_beq htracking.2
    refine ⟨fun hok => ?_, .single (.relinked hstate)⟩
    obtain ⟨hrun, hrole, hsoft⟩ := hok.mirrorOn fun hoff => nomatch hstate.symm.trans hoff
    exact hok.linking hrun hrole (.inr hstate) hsoft (param .holdTimeout s)
  · exact .refl s

/-- DRAIN_TIMER_EXPIRY (R53). -/
theorem execDrainTimerExpiry_steps : StepMoves Steps execDrainTimerExpiry := by
  refine stepRelation_steps.live fun s => ?_
  split
  · next hdrain =>
    rw [Bool.and_eq_true] at hdrain
    exact endDrain_stopPrimary_steps _ _ fun _ => (eq_of_beq hdrain.2)
  · exact .refl s

/-- DRAIN_NORMAL_END (R51). -/
theorem execDrainNormalEnd_steps : StepMoves Steps execDrainNormalEnd := by
  refine stepRelation_steps.live fun s => ?_
  split
  · next hdone =>
    simp only [drainDone, Bool.and_eq_true] at hdone
    exact endDrain_stopPrimary_steps _ _ fun _ => (eq_of_beq hdone.1.1.1)
  · exact .refl s

/-! ### HOLD -/

/-- HOLD is read outside IDLE: by a running primary (R28, R138). -/
theorem idle_of_unread {s : State} (hok : (standing s).Ok) (h : readsHold s = false) : s.link.state = .idle := by
  have hoff : s.mirror.state = .off := Decidable.byContradiction fun hon => by
    obtain ⟨hrun, hrole, -⟩ := hok.mirrorOn hon
    rw [readsHold, show s.phase = .running from hrun, show s.role = .primary from hrole] at h
    cases h
  have hsession := hok.session
  simpa [standing, hoff, sessionOf] using hsession

/-- A level at the HOLD connection that the part does not read, or that stands already (R138). -/
theorem holdUnread_steps (level : Bool) {s : State} (h : readsHold s = false ∨ s.holdIn = level) :
    Steps s (s.withHoldIn level) := by
  refine .stands rfl fun hok => ?_
  rcases h with hunread | hsame
  · exact hok.holdUnread (idle_of_unread hok hunread) level
  · have hstands : standing (s.withHoldIn level) = standing s := by rw [← hsame]; rfl
    rwa [hstands]

/-- HOLD_ASSERTED (R122, R123, R138). -/
theorem execHoldAsserted_steps : StepMoves Steps execHoldAsserted := by
  refine Moves.next fun s => ?_
  split
  · next hread =>
    simp only [Bool.and_eq_true, Bool.not_eq_true'] at hread
    refine .stands rfl fun hok => hok.holdRaised ?_
    show (if s.link.state = .idle then s.link.holdTimer else some _).isSome ↔ s.link.state ≠ .idle
    split
    · next hidle =>
      have hnone := mt hok.hold.1 fun h => h.2 hidle
      simpa [standing, hidle] using hnone
    · next hbusy => simpa using hbusy
  · next hunread =>
    refine holdUnread_steps true ?_
    cases hr : readsHold s <;> cases hl : s.holdIn <;> simp_all

/-- HOLD_WITHDRAWN (R121 to R123, R138). -/
theorem execHoldWithdrawn_steps : StepMoves Steps execHoldWithdrawn := by
  refine Moves.next fun s => ?_
  split
  · refine .stands rfl fun hok => hok.holdLowered fun ht => ?_
    change (if s.link.state = .up ∧ sentRemain (s.withHoldIn false) = true then
      startedTimer .ackTimeout (s.withHoldIn false) else s.link.ackTimer).isSome = true at ht
    split at ht
    · next hup => exact hup.1
    · exact (hok.ack ht).1
  · next hunread =>
    refine holdUnread_steps false ?_
    cases hr : readsHold s <;> cases hl : s.holdIn <;> simp_all

/-! ### Transmission -/

/-- LINK_FRAME_TRANSMIT_START (R119, R120). -/
theorem execLinkFrameTransmitStart_steps : StepMoves Steps execLinkFrameTransmitStart := by
  have hnext : Moves Steps sendNext := fun s => by
    unfold sendNext
    split
    · exact .of_outline rfl
    · split
      · split
        · next k hk =>
          unfold sendEntry
          dsimp only
          split <;> exact .event rfl (.sent k hk)
        · exact .refl s
      · exact .refl s
  exact stepRelation_steps.live (stepRelation_steps.when hnext _)

end Sys2Proof.Proofs
end

section
/-! PROOFS. What a step can do to the agreement of the blocks and to the mirroring side: the character layer, the resets and the
commands of the service port (chapters 7, 10). -/
namespace Sys2Proof.Proofs

open Sys2Proof.Machine Sys2Proof.Safety

/-! ### The character layer -/

/-- A frame under collection abandoned (R143). -/
theorem outline_abandonFrame (l : LineId) : KeepsOutline (abandonFrame l) := fun s => by
  unfold abandonFrame
  dsimp only
  split
  · exact (rfl : outline (bump _ _) = outline _).trans (outline_withLine ..)
  · exact outline_withLine ..

/-- A good character (R140 to R142). -/
theorem outline_goodCharacter (l : LineId) (c : Character) : KeepsOutline (goodCharacter l c) := fun s => by
  unfold goodCharacter
  split
  · exact (outline_withLine ..).trans (outline_abandonFrame ..)
  · split
    · unfold appendByte
      split
      · exact outline_withLine ..
      · exact (rfl : outline (bump _ _) = outline _).trans (outline_withLine ..)
    · rfl

/-- A received character (R139, R140). -/
theorem outline_receive (l : LineId) (c : Character) : KeepsOutline (receive l c) := fun s => by
  unfold receive
  split
  · rfl
  · dsimp only
    split
    · exact outline_goodCharacter ..
    · exact outline_abandonFrame l _
    · exact (outline_withLine ..).trans (outline_abandonFrame l _)

/-- What the end of a mirror-link frame's transmission starts (R114, R123). -/
theorem linkSent_steps (f : LinkFrame) : Moves Steps (linkSent f) := fun s => by
  unfold linkSent
  split
  · unfold helloSent
    split
    · refine .stands rfl fun hok => hok.helloTimed fun ht => ?_
      split at ht
      · next hwait => exact hwait
      · exact hok.hello ht
    · exact .refl s
  · unfold sequencedSent
    split
    · next hsent => exact .stands rfl fun hok => hok.ackTimed fun _ => ⟨hsent.1, hsent.2.2.1⟩
    · exact .refl s
  all_goals exact .refl s

/-- TRANSMISSION_END (R137). -/
theorem execTransmissionEnd_steps (l : LineId) : StepMoves Steps (execTransmissionEnd l) := by
  refine stepRelation_steps.live fun s => ?_
  unfold endTx
  split
  · split
    · exact .refl s
    · have hsent (c : TxContent) : Moves Steps (frameSent c) := fun s => by
        unfold frameSent
        split
        · exact linkSent_steps _ s
        · exact .of_outline rfl
      exact stepRelation_steps.line l _ (hsent _ _)
  · exact .refl s

/-- RESPONSE_TRANSMIT_START (R189). -/
theorem execResponseTransmitStart_steps : StepMoves Steps execResponseTransmitStart := by
  refine stepRelation_steps.live fun s => ?_
  unfold sendResponse
  split
  · next r rest _ hlist =>
    exact .stands rfl fun hok => hok.responsesSent (n := rest.length) (by simp [standing, hlist])
  · exact .refl s

/-! ### Resets -/

/-- Every block after reset, with a table in which no entry is in use (R25, R28, R67, R85). -/
theorem reset_steps {s t : State} (hstands : ∃ phase role holdIn,
      standing t = { standing State.reset with phase := phase, role := role, holdIn := holdIn })
    (hmirror : t.mirror = Mirror.reset) (hjournal : t.journal = Journal.reset) (hheld : t.held = [])
    (hunused : ∀ u : Fin 64, slotPledged t.path.table[u] = false ∧ slotCapture t.path.table[u] = none) : Steps s t := by
  obtain ⟨phase, role, holdIn, hstands⟩ := hstands
  refine ⟨fun _ => hstands ▸ Standing.ok_reset phase role holdIn, .single ?_⟩
  have hevent := MirrorEvent.reset (a := mirrorSide s) t.path.table (param .window t) hunused
  rwa [← hmirror, ← hjournal, ← hheld] at hevent

/-- Board reset leaves no pledge and no capture link (R103). -/
theorem staleSlot_unclaimed (x : TrackSlot) : slotPledged (staleSlot x) = false ∧ slotCapture (staleSlot x) = none := by
  cases x with
  | used e => cases h : e.state <;> simp [staleSlot, h, slotPledged, slotCapture]
  | free => exact ⟨rfl, rfl⟩
  | stale _ _ => exact ⟨rfl, rfl⟩

/-- POWER_ON_RESET (R104). -/
theorem execPowerOnReset_steps : StepMoves Steps execPowerOnReset :=
  Moves.next fun s => reset_steps ⟨_, _, s.holdIn, rfl⟩ rfl rfl rfl fun u => by
    simp [State.reset, Path.reset, slotPledged, slotCapture]

/-- BOARD_RESET_ASSERT (R25, R28, R67, R85, R103). -/
theorem execBoardResetAssert_steps : StepMoves Steps execBoardResetAssert := by
  refine Moves.next fun s => ?_
  split
  · refine reset_steps ⟨.boardReset, s.role, s.holdIn, rfl⟩ rfl rfl rfl fun u => ?_
    simpa [Path.boardReset] using staleSlot_unclaimed s.path.table[u]
  · exact .refl s

/-- BOARD_RESET_RELEASE (R103, R199). -/
theorem execBoardResetRelease_steps (high : Bool) : StepMoves Steps (execBoardResetRelease high) := by
  refine Moves.next fun s => ?_
  split
  · next hp =>
    have hcleared : KeepsClaims s.path.table (s.path.table.map clearKept) := .map (fun x => by
      cases x with
      | used e => exact .refl _
      | free => exact .refl _
      | stale _ k => cases k <;> exact ⟨rfl, .inl rfl⟩) _
    have hkept : Steps s (s.withPath { s.path with table := s.path.table.map clearKept }) :=
      .viewed rfl rfl rfl rfl hcleared (Nat.le_refl _)
    exact hkept.trans (.stands rfl fun hok => hok.released (by simp [standing, hp]) (strapRole high))
  · exact .refl s

/-- POWER_ON_RESET_END (R199). -/
theorem execPowerOnResetEnd_steps (high : Bool) : StepMoves Steps (execPowerOnResetEnd high) := by
  refine Moves.next fun s => ?_
  split
  · next hp => exact .stands rfl fun hok => hok.released (by simp [standing, hp]) (strapRole high)
  · exact .refl s

/-! ### Responses -/

/-- A response that joins a free place of the response list (R189). -/
theorem pushResponse_steps (r : SvcResponse) {s : State}
    (hplace : s.port.responses.length + (if s.port.slot.isSome then 1 else 0) < 4) : Steps s (pushResponse r s) := by
  refine .stands rfl fun hok => ?_
  have hstands : standing (pushResponse r s) = { standing s with responses := s.port.responses.length + 1 } := by
    simp only [pushResponse_frame, standing, List.length_append, List.length_singleton]
  rw [hstands]
  exact hok.answered hplace

/-- A response after an effect that leaves the service port as it is (R189). -/
theorem Steps.responded {s u : State} (hfits : ResponseFits s) (hu : Steps s u) (hport : u.port = s.port) (code : Nat)
    (st : Status) (body : List Byte) : Steps s (respond code st body u) :=
  hu.trans (pushResponse_steps _ (hport ▸ hfits.2))

/-- A response alone (R189). -/
theorem respond_steps {s : State} (hfits : ResponseFits s) (code : Nat) (st : Status) (body : List Byte) :
    Steps s (respond code st body s) :=
  (Steps.refl s).responded hfits rfl code st body

/-- A command served: it is carried out with the slot free and a place for its response (R189, R190). -/
theorem serve_steps (c : Instr) {code : Nat} {act : State → State}
    (h : ∀ s, ResponseFits s → s.port.slot = none → Steps s (act s)) : StepMoves Steps (Machine.serve c code act) :=
  stepRelation_steps.serveTaken c (fun s hs => h s ⟨hs.1, by simpa [hs.2.1] using hs.2.2⟩ hs.2.1)
    fun _ _ hfits => respond_steps hfits _ _ _

/-- A command that is answered and changes nothing that is read. -/
theorem serve_steps_responded (c : Instr) {code : Nat} {act : State → State}
    (h : ∀ s, ∃ (st : Status) (body : List Byte) (u : State),
      act s = respond code st body u ∧ outline u = outline s ∧ u.port = s.port) :
    StepMoves Steps (Machine.serve c code act) :=
  serve_steps c fun s hs _ => by
    obtain ⟨st, body, u, heq, houtline, hport⟩ := h s
    rw [heq]
    exact (Steps.of_outline houtline).responded hs hport code st body

/-- SERVICE_FRAME_REJECTED (R187, R189). -/
theorem execServiceFrameRejected_steps (d : Delivery) : StepMoves Steps (execServiceFrameRejected d) := by
  refine stepRelation_steps.takeDeliveryRunning .service fun x s t hp ht => ?_
  split at ht
  · split at ht
    · cases ht
      exact .of_outline rfl
    · next hfree =>
      have hfits : ResponseFits s := ⟨hp, by
        have hplaces : ¬ 4 - s.port.responses.length - (if s.port.slot.isSome then 1 else 0) = 0 := hfree
        omega⟩
      unfold rejectDelivery at ht
      split at ht
      · cases ht
        exact pushResponse_steps _ hfits.2
      · split at ht
        · cases ht
        · cases ht
          unfold throughSlot
          split <;> exact respond_steps hfits _ _ _
  · cases ht

/-- SERVICE_FRAME_DROPPED (R189). -/
theorem execServiceFrameDropped_steps : StepMoves Steps execServiceFrameDropped := by
  refine stepRelation_steps.takeDeliveryRunning .service fun x s t _ ht => ?_
  split at ht
  · cases ht
    exact .of_outline rfl
  · cases ht

/-! ### Commands that read, and commands on the exception list, the alerts and the counters -/

/-- STATUS (R192). -/
theorem execStatus_steps (group : Byte) : StepMoves Steps (execStatus group) :=
  serve_steps_responded _ fun s => by
    unfold doStatus
    split <;> exact ⟨_, _, s, rfl, rfl, rfl⟩

/-- READ_PARAM (R193). -/
theorem execReadParam_steps (number : Byte) : StepMoves Steps (execReadParam number) :=
  serve_steps_responded _ fun s => by
    unfold doReadParam
    split <;> exact ⟨_, _, s, rfl, rfl, rfl⟩

/-- READ_REGION (R81). -/
theorem execReadRegion_steps (index : Byte) : StepMoves Steps (execReadRegion index) :=
  serve_steps_responded _ fun s => by
    unfold doReadRegion
    split <;> exact ⟨_, _, s, rfl, rfl, rfl⟩

/-- READ_COUNTERS (R198). -/
theorem execReadCounters_steps (number : Byte) : StepMoves Steps (execReadCounters number) :=
  serve_steps_responded _ fun s => by
    unfold doReadCounters
    split <;> exact ⟨_, _, s, rfl, rfl, rfl⟩

/-- CLEAR_COUNTERS (R198). -/
theorem execClearCounters_steps (number : Byte) : StepMoves Steps (execClearCounters number) :=
  serve_steps_responded _ fun s => by
    unfold doClearCounters
    split
    · exact ⟨_, _, _, rfl, rfl, rfl⟩
    · split <;> exact ⟨_, _, _, rfl, rfl, rfl⟩

/-! ### Parameters and regions -/

/-- With the part's own state in OFF both blocks stand in OFF (R28, R147). -/
theorem bothOff {s : State} (hok : (standing s).Ok) (hoff : ownStateOff s = true) :
    s.mirror.state = .off ∧ s.replica.state = .off := by
  cases hr : s.role with
  | primary => exact ⟨(ownStateOff_primary hr).1 hoff, hok.primaryRole hr⟩
  | replica => exact ⟨hok.replicaRole hr, (ownStateOff_replica hr).1 hoff⟩

/-- A parameter written: the window in OFF alone (R193). -/
theorem setParam_steps {p : Param} (v : Nat) {s : State} (hoff : paramOffOnly p = true → ownStateOff s = true) :
    Steps s (setParam p v s) := by
  by_cases hwindow : p = .window
  · subst hwindow
    exact ⟨id, .agreed _ _ .refl fun hok => .windowWritten _ (bothOff hok (hoff rfl)).1⟩
  · have hother : param .window (setParam p v s) = param .window s :=
      getElem_set_other _ _ fun h => hwindow (paramNumber_injective h).symm
    refine .of_outline (Prod.ext rfl ?_)
    simp only [outline, mirrorSide, hother]
    rfl

/-- A divisor that becomes pending (R136, R194). -/
theorem pendDivisor_steps (p : Param) (v : Nat) : Moves Steps (pendDivisor p v) := fun s => by
  cases p with
  | serviceDivisor =>
    refine .of_outline (Prod.ext ?_ rfl)
    simp only [outline, standing, pendDivisor, supersedeDivisor, State.withPort, State.withSvcLine, List.length_map]
  | _ => exact .of_outline rfl

/-- The service port after a divisor became pending holds as many responses, and the same slot (R136, R194). -/
theorem pendDivisor_port (p : Param) (v : Nat) (s : State) :
    (pendDivisor p v s).port.responses.length = s.port.responses.length
      ∧ (pendDivisor p v s).port.slot = s.port.slot := by
  cases p with
  | serviceDivisor => exact ⟨List.length_map .., rfl⟩
  | _ => exact ⟨rfl, rfl⟩

/-- WRITE_PARAM (R193, R194). -/
theorem execWriteParam_steps (number : Byte) (value : BitVec 16) : StepMoves Steps (execWriteParam number value) := by
  refine serve_steps _ fun s hs _ => ?_
  unfold doWriteParam
  split
  · exact respond_steps hs _ _ _
  · next p _ =>
    split
    · exact respond_steps hs _ _ _
    · split
      · exact respond_steps hs _ _ _
      · next hchecked =>
        obtain ⟨hlength, hslot⟩ := pendDivisor_port p value.toNat (setParam p value.toNat s)
        refine (setParam_steps (p := p) value.toNat fun honly => ?_).trans
          ((pendDivisor_steps p value.toNat _).trans (pushResponse_steps _ ?_))
        · simpa [honly] using hchecked
        · rw [hlength, hslot]
          exact hs.2

/-- An entry of the region table changed (R79, R82). -/
theorem changeRegion_steps (i : Fin 32) (new : Option Region) : Moves Steps (changeRegion i new) := fun s => by
  rw [changeRegion_eq]
  split
  · exact .viewed rfl rfl rfl rfl (keepsClaims_unsettle s.path) (Nat.le_refl _)
  · exact .of_outline rfl

/-- An entry of the region table changed leaves the service port as it is. -/
theorem changeRegion_port (i : Fin 32) (new : Option Region) (s : State) : (changeRegion i new s).port = s.port := by
  rw [changeRegion_eq]

/-- LOAD_REGION (R77, R79). -/
theorem execLoadRegion_steps (index : Byte) (base count : BitVec 32) (kind policy : Byte) :
    StepMoves Steps (execLoadRegion index base count kind policy) := by
  refine serve_steps _ fun s hs _ => ?_
  unfold doLoadRegion
  split
  · unfold loadChecked
    split
    · exact respond_steps hs _ _ _
    · split
      · exact respond_steps hs _ _ _
      · split
        · exact respond_steps hs _ _ _
        · exact (changeRegion_steps _ _ s).responded hs (changeRegion_port ..) _ _ _
  · exact respond_steps hs _ _ _

/-- CLEAR_REGION (R80). -/
theorem execClearRegion_steps (index : Byte) : StepMoves Steps (execClearRegion index) := by
  refine serve_steps _ fun s hs _ => ?_
  unfold doClearRegion
  split
  · unfold clearEntry
    split
    · exact respond_steps hs _ _ _
    · split
      · exact respond_steps hs _ _ _
      · exact (changeRegion_steps _ _ s).responded hs (changeRegion_port ..) _ _ _
  · exact respond_steps hs _ _ _

end Sys2Proof.Proofs
end

section
/-! PROOFS. What a step can do to the agreement of the blocks and to the mirroring side: starting, stopping, RESYNC, the role and
the soft reset; and every step (chapters 2, 10). -/
namespace Sys2Proof.Proofs

open Sys2Proof.Machine Sys2Proof.Safety

/-! ### Starting and stopping -/

/-- Marks leave the drain timer as it is (R36). -/
theorem markAll_drainTimer (ps : List Nat) (m : Mirror) : (m.markAll ps).drainTimer = m.drainTimer := by
  unfold Mirror.markAll
  induction ps generalizing m with
  | nil => rfl
  | cons p ps ih => rw [List.foldl_cons, ih, mark_drainTimer]

/-- A session offered in OFF by a running primary whose slot is free (R43, R114). -/
theorem startPrimary_steps {m : Mirror} {s : State} (hs : ResponseFits s) (hslot : s.port.slot = none)
    (hr : s.role = .primary) (hoff : s.mirror.state = .off) (htimer : m.drainTimer = s.mirror.drainTimer)
    (hevent : MirrorEvent (mirrorSide s) { mirrorSide s with
      journal := { s.journal with lastSeq := none },
      mirror := { m with cursor := 0, passCount := 0, copied := 0, skipped := 0, drainCount := 0, state := .linking } }) :
    Steps s (startPrimary m s) := by
  have hoffered : Steps s (enterLinking (s.withMirror
      { m with cursor := 0, passCount := 0, copied := 0, skipped := 0, drainCount := 0 })) := by
    refine ⟨fun hok => ?_, .single hevent⟩
    have hlinking := hok.linking hs.1 hr (.inl hoff) (by simp [standing, hslot]) (param .holdTimeout s)
    rw [Standing.linking, show (standing s).drainTimer = m.drainTimer from htimer.symm] at hlinking
    exact hlinking
  exact hoffered.responded hs rfl _ _ _

/-- START FULL and START CLEAN (R43, R148, R195). -/
theorem doStart_steps {m : State → Mirror} (hm : m = fullStart ∨ m = cleanStart) {s : State} (hs : ResponseFits s)
    (hslot : s.port.slot = none) : Steps s (doStart m s) := by
  unfold doStart
  split
  · exact respond_steps hs _ _ _
  · next hown =>
    have hown : ownStateOff s = true := by simpa using hown
    split
    · exact respond_steps hs _ _ _
    · split
      · next hr =>
        have hoff := (ownStateOff_primary hr).1 hown
        rcases hm with rfl | rfl
        · exact startPrimary_steps hs hslot hr hoff (markAll_drainTimer ..) (.startedFull (allMirrorPages s) hoff)
        · exact startPrimary_steps hs hslot hr hoff rfl (.startedClean hoff)
      · next hr =>
        have hcounted : Steps s (s.withMirror { s.mirror with drainCount := 0 }) := .event rfl (.counted 0)
        have hlistening : Steps (s.withMirror { s.mirror with drainCount := 0 })
            ((s.withReplica { s.replica with state := .listening }).withMirror { s.mirror with drainCount := 0 }) :=
          .stands rfl fun hok => hok.replicaTurned fun _ => ⟨hs.1, hr, by simp [standing, hslot]⟩
        exact (hcounted.trans hlistening).responded hs rfl _ _ _

/-- STOP NOW in the primary role, the slot not held by a drain (R48, R190). -/
theorem stopPrimary_steps {s : State} (hslot : s.port.slot = none) : Steps s (stopPrimary s) := by
  refine stops_steps (mirrorSide_stopPrimary s) fun hok => ?_
  rw [standing_stopPrimary, hslot]
  have hplaces := hok.places
  rw [show (standing s).slot = none from hslot] at hplaces
  exact hok.stopped nofun nofun hplaces

/-- STOP NOW leaves the service port as it is, in either role (R48, R148). -/
theorem stop_port (s : State) : (stopPrimary s).port = s.port ∧ (stopReplica s).port = s.port := by
  refine ⟨by rw [stopPrimary_frame], ?_⟩
  unfold stopReplica
  split <;> rfl

/-- STOP NOW (R48, R148, R195). -/
theorem execStopNow_steps : StepMoves Steps execStopNow := by
  refine serve_steps _ fun s hs hslot => ?_
  unfold doStopNow
  split
  · exact respond_steps hs _ _ _
  · split
    · exact (stopPrimary_steps hslot).responded hs (stop_port s).1 _ _ _
    · exact (stopReplica_steps s).responded hs (stop_port s).2 _ _ _

/-- STOP DRAIN (R49, R191, R195). -/
theorem execStopDrain_steps : StepMoves Steps execStopDrain := by
  refine serve_steps _ fun s hs hslot => ?_
  unfold doStopDrain
  split
  · next hdrains =>
    rw [Bool.and_eq_true] at hdrains
    refine ⟨fun hok => hok.drainBegun hdrains.2 (param .drainTimeout s) ?_,
      .single (.drainBegun _ ((capturing_iff _).1 hdrains.2))⟩
    simpa [standing, hslot] using hs.2
  · exact respond_steps hs _ _ _

/-- ABORT (R53, R191, R196). -/
theorem execAbort_steps : StepMoves Steps execAbort := by
  refine stepRelation_steps.takePlaced _ fun s hs => ?_
  unfold doAbort
  split
  · next hslot =>
    exact (respond_steps hs 9 .ok []).trans
      (endDrain_stopPrimary_steps _ _ fun hok => hok.draining.2 hslot)
  · exact respond_steps hs _ _ _
  · exact respond_steps hs _ _ _

/-! ### RESYNC -/

/-- Pages marked in order outside OFF (R29, R36). -/
theorem markAll_steps (ps : List Nat) {s : State} (hon : s.mirror.state ≠ .off) :
    Steps s (s.withMirror (s.mirror.markAll ps)) := by
  induction ps generalizing s with
  | nil => exact .refl s
  | cons p ps ih =>
    have hstill : (s.mirror.mark p).state ≠ .off := by
      rw [Mirror.mark_state]
      split
      · nofun
      · exact hon
    exact (marked_steps p hon).trans (ih hstill)

/-- In STREAMING and CATCHUP marks leave the part there (R29). -/
theorem markAll_capturing (ps : List Nat) {m : Mirror} (h : m.state = .streaming ∨ m.state = .catchup) :
    (m.markAll ps).state = .streaming ∨ (m.markAll ps).state = .catchup := by
  induction ps generalizing m with
  | nil => exact h
  | cons p ps ih =>
    refine ih ?_
    rw [Mirror.mark_state]
    split
    · exact .inr rfl
    · exact h

/-- Catch-up-active set in STREAMING or CATCHUP (R29). -/
theorem setCatchup_steps {s : State} (h : s.mirror.state = .streaming ∨ s.mirror.state = .catchup) :
    Steps s (s.withMirror s.mirror.setCatchup) :=
  ⟨fun hok => hok.marked, .single (.caughtUp h)⟩

/-- RESYNC is taken outside OFF (R54). -/
theorem on_of_resyncTaken {s : State} (h : resyncTaken s = true) : s.mirror.state ≠ .off := by
  intro hoff
  simp [resyncTaken, hoff, MirrorState.capturing] at h

/-- RESYNC (R54, R196). -/
theorem execResync_steps (scope : ResyncScope) : StepMoves Steps (execResync scope) := by
  refine serve_steps _ fun s hs _ => ?_
  unfold doResync
  split
  · exact respond_steps hs _ _ _
  · split
    · exact respond_steps hs _ _ _
    · next htaken =>
      have hon := on_of_resyncTaken (by simpa using htaken)
      split
      · next plan _ =>
        have hmarked := markAll_steps plan.pages hon
        have hcaught : Steps s (s.withMirror (if s.mirror.state = .streaming then
            (s.mirror.markAll plan.pages).setCatchup else s.mirror.markAll plan.pages)) := by
          split
          · next hstreaming => exact hmarked.trans (setCatchup_steps (markAll_capturing _ (.inl hstreaming)))
          · exact hmarked
        exact hcaught.responded hs rfl _ _ _
      · exact respond_steps hs _ _ _

/-! ### The role -/

/-- A role taken up with both blocks in OFF (R82, R138, R170). -/
theorem changeRole_steps (role : Role) {s : State}
    (hoff : (standing s).Ok → s.mirror.state = .off ∧ s.replica.state = .off) : Steps s (changeRole role s) := by
  have hunsettled : Steps s (s.withPath s.path.unsettle) :=
    .viewed rfl rfl rfl rfl (keepsClaims_unsettle s.path) (Nat.le_refl _)
  have htaken : Steps (s.withPath s.path.unsettle) ((s.withRole role).withPath s.path.unsettle) :=
    .stands rfl fun hok => hok.roleTaken (hoff hok).1 (hoff hok).2 role
  refine (hunsettled.trans htaken).trans ?_
  cases role with
  | primary => exact .refl _
  | replica => exact .of_outline (outline_withReplica rfl)

/-- A role taken up leaves the service port as it is. -/
theorem changeRole_port (role : Role) (s : State) : (changeRole role s).port = s.port := by
  cases role <;> rfl

/-- SET_ROLE (R170, R200). -/
theorem execSetRole_steps (role : Byte) : StepMoves Steps (execSetRole role) := by
  refine serve_steps _ fun s hs _ => ?_
  unfold doSetRole
  split
  · unfold setRoleChecked
    split
    · exact respond_steps hs _ _ _
    · next hoff =>
      split
      · exact respond_steps hs _ _ _
      · split
        · exact respond_steps hs _ _ _
        · exact (changeRole_steps _ fun hok => bothOff hok (by simpa using hoff)).responded hs (changeRole_port ..) _ _ _
  · exact respond_steps hs _ _ _

/-- PROMOTE carried out by a replica (R171, R201). -/
theorem performPromote_steps {s : State} (hs : ResponseFits s) (hr : s.role = .replica) :
    Steps s (performPromote s) := by
  have hturned {t : State} (ht : Steps s t) (hrole : t.role = .replica) (hport : t.port = s.port)
      (hoff : t.replica.state = .off) (body : List Byte) : Steps s (respond 20 .ok body (changeRole .primary t)) :=
    (ht.trans (changeRole_steps .primary fun hok => ⟨hok.replicaRole hrole, hoff⟩)).responded hs
      ((changeRole_port ..).trans hport) _ _ _
  unfold performPromote
  dsimp only
  split
  · exact hturned (t := leaveSession (some .promoted) .off s) (leaveSession_steps _ (by simp)) hr rfl rfl _
  · exact hturned (t := s.withReplica { s.replica with state := .off })
      (.stands rfl fun hok => hok.replicaTurned (by simp)) hr rfl rfl _
  · next hoff => exact hturned (.refl s) hr rfl hoff _

/-- PROMOTE (R171, R201). -/
theorem execPromote_steps (force : Byte) : StepMoves Steps (execPromote force) := by
  refine serve_steps _ fun s hs _ => ?_
  unfold doPromote
  split
  · exact respond_steps hs _ _ _
  · split
    · exact respond_steps hs _ _ _
    · next hr =>
      split
      · exact respond_steps hs _ _ _
      · split
        · exact respond_steps hs _ _ _
        · exact performPromote_steps hs hr

/-! ### The soft reset -/

/-- The part's own side stopped, in OFF nothing (R202). -/
theorem softStop_steps {s : State} (hslot : s.port.slot = none) : Steps s (softStop s) := by
  unfold softStop
  split
  · exact .refl s
  · split
    · exact stopPrimary_steps hslot
    · exact stopReplica_steps s

/-- The part's own state is OFF once its own side is stopped (R48, R148, R202). -/
theorem softStop_off (s : State) : ownStateOff (softStop s) = true := by
  unfold softStop
  split
  · assumption
  · next hoff =>
    split
    · next hr =>
      refine (ownStateOff_primary ?_).2 ?_ <;> rw [stopPrimary_eq]
      · exact hr
      · rfl
    · next hr =>
      unfold stopReplica
      split
      · exact (ownStateOff_replica (s := leaveSession _ .off s) hr).2 rfl
      · exact (ownStateOff_replica (s := s.withReplica { s.replica with state := .off }) hr).2 rfl
      · next hs => exact (ownStateOff_replica hr).2 hs

/-- A soft reset leaves phase and port as they are before it takes the slot (R202). -/
theorem softStop_frame (s : State) : (softStop s).phase = s.phase ∧ (softStop s).port = s.port := by
  unfold softStop
  split
  · exact ⟨rfl, rfl⟩
  · split
    · rw [stopPrimary_frame]
      exact ⟨rfl, rfl⟩
    · refine ⟨?_, (stop_port s).2⟩
      unfold stopReplica
      split <;> rfl

/-- In OFF a link unit put to IDLE with its timers stopped stays where it is (R112, R202). -/
theorem quiet_steps {s : State} (hoff : ownStateOff s = true) : Steps s (s.withLink s.link.quiet) :=
  .stands rfl fun hok =>
    have hm : (standing s).mirror = .off := (bothOff hok hoff).1
    { hok with
      session := by
        show SessionState.idle = sessionOf (standing s).mirror
        rw [hm]
        rfl
      hello := nofun
      ack := nofun
      hold := by simp [standing, Link.quiet]
      relink := by
        show (none : Timer).isSome ↔ (standing s).mirror = .tracking
        simp [hm] }

/-- A soft reset takes the slot with both blocks in OFF (R202). -/
theorem softResetHeld_steps {s : State} (hs : ResponseFits s) (hslot : s.port.slot = none) (hoff : ownStateOff s = true) :
    Steps s (s.withPort { s.port with slot := some .softReset }) :=
  .stands rfl fun hok =>
    have hm : (standing s).mirror = .off := (bothOff hok hoff).1
    { hok with
      inReset := fun hp => absurd hs.1 hp
      draining := by
        show (standing s).mirror = .draining ↔ some SlotHolder.softReset = some .stopDrain
        simp [hm]
      softReset := fun _ => bothOff (s := s) hok hoff
      places := by simpa [standing, hslot] using hs.2 }

/-- A soft reset that waits completed (R203). -/
theorem completeSoftReset_steps {s : State} (hslot : s.port.slot = some .softReset) : Steps s (completeSoftReset s) := by
  unfold completeSoftReset
  split
  · refine .stands rfl fun hok => ?_
    have hstands : standing (finishSlot 21 .ok [] s) =
        { standing s with slot := none, responses := s.port.responses.length + 1 } := by
      simp only [finishSlot_frame, standing, List.length_append, List.length_singleton]
    rw [hstands]
    exact hok.softResetAnswered hslot
  · exact .refl s

/-- Abandoned frames leave the role, the states, the phase and the port as they are (R143). -/
theorem abandonFrame_frame (l : LineId) (s : State) : ownStateOff (abandonFrame l s) = ownStateOff s
    ∧ (abandonFrame l s).phase = s.phase ∧ (abandonFrame l s).port = s.port := by
  unfold abandonFrame
  dsimp only
  split <;> cases l <;> exact ⟨rfl, rfl, rfl⟩

/-- SOFT_RESET (R202, R203). -/
theorem execSoftReset_steps : StepMoves Steps execSoftReset := by
  refine serve_steps _ fun s hs hslot => ?_
  let t := (softStop s).withLink (softStop s).link.quiet
  have hquiet : Steps s t := (softStop_steps hslot).trans (quiet_steps (softStop_off s))
  let u := abandonFrame .service (abandonFrame .link t)
  have habandoned : Steps t u :=
    (Steps.of_outline (outline_abandonFrame .link t)).trans (.of_outline (outline_abandonFrame .service _))
  obtain ⟨hoff₁, hphase₁, hport₁⟩ := abandonFrame_frame .link t
  obtain ⟨hoff₂, hphase₂, hport₂⟩ := abandonFrame_frame .service (abandonFrame .link t)
  obtain ⟨hphase, hport⟩ := softStop_frame s
  have hoff : ownStateOff u = true := (hoff₂.trans hoff₁).trans (softStop_off s)
  have huport : u.port = s.port := (hport₂.trans hport₁).trans hport
  have huphase : u.phase = s.phase := (hphase₂.trans hphase₁).trans hphase
  have hheld : Steps u (u.withPort { u.port with slot := some .softReset }) :=
    softResetHeld_steps ⟨huphase.trans hs.1, by rw [huport]; exact hs.2⟩ (by rw [huport]; exact hslot) hoff
  exact hquiet.trans (habandoned.trans (hheld.trans (completeSoftReset_steps rfl)))

/-- SOFT_RESET_COMPLETE (R203). -/
theorem execSoftResetComplete_steps : StepMoves Steps execSoftResetComplete := by
  refine stepRelation_steps.live fun s => ?_
  split
  · exact completeSoftReset_steps ‹_›
  · exact .refl s
  · exact .refl s

/-! ### Every step -/

/-- A response passed back frees the entry of an answer that waited, and changes nothing else that is read (R102). -/
def PassedBack (s t : State) : Prop :=
  standing t = standing s ∧ ∃ u ∈ s.path.answerQueue, mirrorSide t = { mirrorSide s with
    table := s.path.table.set u .free }

/-- HOST_RESPONSE_PASS_BACK (R102). -/
theorem execHostResponsePassBack_steps (s t : State) (h : execHostResponsePassBack s = .next t) :
    Steps s t ∨ PassedBack s t := by
  unfold execHostResponsePassBack live at h
  cases h
  split
  · unfold passBack
    split
    · exact .inl (.refl s)
    · next u rest hqueue =>
      split
      · split
        · exact .inr ⟨rfl, u, by simp [hqueue], rfl⟩
        · exact .inl (.refl s)
      · exact .inl (.refl s)
      · exact .inl (.refl s)
  · exact .inl (.refl s)

/-- Every command but a response passed back keeps the agreement of the blocks and comes to events of the mirroring side. -/
theorem exec_steps (c : Instr) (hc : c ≠ .hostResponsePassBack) : StepMoves Steps (exec c) := by
  cases c with
  | powerOnReset => exact execPowerOnReset_steps
  | boardResetAssert => exact execBoardResetAssert_steps
  | boardResetRelease strapHigh => exact execBoardResetRelease_steps strapHigh
  | hostRequestTake presented => exact execHostRequestTake_steps presented
  | memorySideGrant => exact stepRelation_steps.live arbitrate_steps
  | memoryResponse source tag status data => exact execMemoryResponse_steps source tag status data
  | hostResponsePassBack => exact absurd rfl hc
  | sweepPick => exact execSweepPick_steps
  | chunkReadIssue => exact execChunkReadIssue_steps
  | doneEntryAppend => exact execDoneEntryAppend_steps
  | drainNormalEnd => exact execDrainNormalEnd_steps
  | holdAsserted => exact execHoldAsserted_steps
  | holdWithdrawn => exact execHoldWithdrawn_steps
  | helloTimerExpiry => exact execHelloTimerExpiry_steps
  | ackTimerExpiry => exact execAckTimerExpiry_steps
  | holdTimerExpiry => exact execHoldTimerExpiry_steps
  | relinkTimerExpiry => exact execRelinkTimerExpiry_steps
  | drainTimerExpiry => exact execDrainTimerExpiry_steps
  | characterReceived line ch => exact KeepsOutline.live (outline_receive line ch)
  | frameDiscarded d => exact execFrameDiscarded_steps d
  | helloRoleConflict session => exact execHelloRoleConflict_steps session
  | welcomeTaken session result => exact execWelcomeTaken_steps session result
  | byeTaken session reason => exact execByeTaken_steps session reason
  | ackTaken session n => exact execAckTaken_steps session n
  | nakTaken session n => exact execNakTaken_steps session n
  | helloTaken session hello => exact execHelloTaken_steps session hello
  | sequencedFrameTaken session n body => exact execSequencedFrameTaken_steps session n body
  | replicaByeTaken session reason => exact execReplicaByeTaken_steps session reason
  | applyFrameStart => exact stepRelation_steps.live startNext_steps
  | welcomeAcceptSend => exact KeepsOutline.liveWhen (f := acceptSend) (fun _ => outline_withReplica rfl) _
  | linkFrameTransmitStart => exact execLinkFrameTransmitStart_steps
  | replyFrameTransmitStart => exact KeepsOutline.liveWhen outline_sendReply _
  | responseTransmitStart => exact execResponseTransmitStart_steps
  | transmissionEnd line => exact execTransmissionEnd_steps line
  | divisorTakeEffect line half => exact KeepsOutline.live fun _ => outline_withLine ..
  | serviceFrameRejected d => exact execServiceFrameRejected_steps d
  | serviceFrameDropped => exact execServiceFrameDropped_steps
  | status group => exact execStatus_steps group
  | readParam number => exact execReadParam_steps number
  | writeParam number value => exact execWriteParam_steps number value
  | loadRegion index base count kind policy => exact execLoadRegion_steps index base count kind policy
  | clearRegion index => exact execClearRegion_steps index
  | readRegion index => exact execReadRegion_steps index
  | startFull => exact serve_steps _ fun _ => doStart_steps (.inl rfl)
  | startClean => exact serve_steps _ fun _ => doStart_steps (.inr rfl)
  | stopNow => exact execStopNow_steps
  | stopDrain => exact execStopDrain_steps
  | abort => exact execAbort_steps
  | resync scope => exact execResync_steps scope
  | readException => exact serve_steps_responded _ fun _ => ⟨_, _, _, rfl, rfl, rfl⟩
  | clearOverflow => exact serve_steps_responded _ fun _ => ⟨_, _, _, rfl, rfl, rfl⟩
  | readAlerts => exact serve_steps_responded _ fun _ => ⟨_, _, _, rfl, rfl, rfl⟩
  | ackAlerts causes => exact serve_steps_responded _ fun _ => ⟨_, _, _, rfl, rfl, rfl⟩
  | setAlertMask causes => exact serve_steps_responded _ fun _ => ⟨_, _, _, rfl, rfl, rfl⟩
  | readMarker => exact serve_steps_responded _ fun _ => ⟨_, _, _, rfl, rfl, rfl⟩
  | readCounters number => exact execReadCounters_steps number
  | clearCounters number => exact execClearCounters_steps number
  | setRole role => exact execSetRole_steps role
  | promote force => exact execPromote_steps force
  | softReset => exact execSoftReset_steps
  | softResetComplete => exact execSoftResetComplete_steps
  | lineSampledHigh line => exact KeepsOutline.live fun _ => outline_withLine ..
  | characterBoundary => exact KeepsOutline.live fun _ => rfl
  | powerOnResetEnd strapHigh => exact execPowerOnResetEnd_steps strapHigh

/-- Every step keeps the agreement of the blocks and comes to events of the mirroring side, or passes a response back. -/
theorem step_steps {s t : State} (h : step s = .next t) : Steps s t ∨ PassedBack s t := by
  have hpopped (rest : List Instr) : Steps s { s with pending := rest } := .of_outline rfl
  unfold step at h
  split at h
  · cases h
    exact .inl (.refl s)
  · next c rest _ =>
    by_cases hc : c = .hostResponsePassBack
    · subst hc
      rcases execHostResponsePassBack_steps _ _ h with hsteps | hpassed
      · exact .inl ((hpopped rest).trans hsteps)
      · exact .inr hpassed
    · exact .inl ((hpopped rest).trans (exec_steps c hc _ _ h))

/-- Settles O53: no command leaves a block out of agreement with the others, and a response passed back touches none. -/
theorem stepsKeepTheBlocksCoordinated : Obligations.StepsKeepTheBlocksCoordinated := by
  intro s t hs hstep
  rw [coordinated_iff] at hs ⊢
  rcases step_steps hstep with hsteps | ⟨hstands, -⟩
  · exact hsteps.agrees hs
  · rwa [hstands]

end Sys2Proof.Proofs
end

section
/-! PROOFS. The dirty page map: every event of the mirroring side keeps it an ascending set with the COPYING page in it, and
catch-up-active, the sweep's values and the reservation in agreement with the mirror state (R8, R28, R29, R33, R34, R38). -/
namespace Sys2Proof.Proofs

open Sys2Proof.Machine Sys2Proof.Safety

/-! ### Invariants along a run of events -/

/-- What every event keeps stands at the end of a run in a part whose blocks agree. -/
theorem MirrorRun.keeps {agree : Prop} {P : MirrorSide → Prop} (hevent : ∀ a b, MirrorEvent a b → P a → P b)
    {a b : MirrorSide} (h : MirrorRun agree a b) (hagree : agree) (ha : P a) : P b := by
  induction h with
  | refl => exact ha
  | tail _ hlast ih => exact hevent _ _ hlast ih
  | agreed m w _ hlast ih => exact hevent _ _ (hlast hagree) ih

/-- What every event keeps, and what does not read the mirror block and the window, stands at the end of every run. -/
theorem MirrorRun.keeps_unread {agree : Prop} {P : MirrorSide → Prop} (hevent : ∀ a b, MirrorEvent a b → P a → P b)
    (hunread : ∀ a m w, P a → P { a with mirror := m, window := w }) {a b : MirrorSide} (h : MirrorRun agree a b)
    (ha : P a) : P b := by
  induction h with
  | refl => exact ha
  | tail _ hlast ih => exact hevent _ _ hlast ih
  | agreed m w _ _ ih => exact hunread _ m w ih

/-! ### The map and the reservation -/

/-- A standing reservation is the COPYING page's next chunk, with a session up (R8, R38). -/
def ReservationStands (m : Mirror) (rv : Option Reservation) : Prop :=
  ∀ r ∈ rv, r.cancelled = false → hasJournal m.state = true ∧ ∃ c ∈ m.copying, c.page = r.page ∧ c.next = r.chunk

/-- The dirty page map and the sweep in agreement with the mirror state (R8, R28, R29, R33, R34, R38). -/
structure MapInOrder (m : Mirror) (rv : Option Reservation) : Prop where
  ascending : m.marks.Pairwise (· < ·)
  copyingMarked : ∀ c ∈ m.copying, c.page ∈ m.marks
  atRest : m.state = .off → sweepAtRest m
  inactive : m.catchupActive = false → m.marks = []
  streaming : m.state = .streaming → m.catchupActive = false
  active : m.state = .catchup ∨ m.state = .tracking → m.catchupActive = true
  cleanArmed : m.cleanArmed = true → m.state = .linking
  noCopying : hasJournal m.state = false → m.copying = none
  reservation : ReservationStands m rv

/-- The map of a part is in order if its mirror block and its reservation are. -/
theorem mapOk_iff (s : State) : MapOk s ↔ MapInOrder s.mirror s.journal.reservation :=
  ⟨fun ⟨h₁, h₂, h₃, h₄, h₅, h₆, h₇, h₈, h₉⟩ => ⟨h₁, h₂, h₃, h₄, h₅, h₆, h₇, h₈, h₉⟩,
    fun h => ⟨h.ascending, h.copyingMarked, h.atRest, h.inactive, h.streaming, h.active, h.cleanArmed, h.noCopying,
      h.reservation⟩⟩

/-- No reservation stands where there is none (R8). -/
theorem reservationStands_none (m : Mirror) : ReservationStands m none := nofun

/-- A reservation cancelled with the journal emptied stands no more (R8). -/
theorem reservationStands_emptied (m : Mirror) (j : Journal) : ReservationStands m j.empty.reservation := by
  intro r hr hstands
  obtain ⟨old, -, rfl⟩ := Option.map_eq_some_iff.1 hr
  cases hstands

section
variable {m m' : Mirror} {rv : Option Reservation}

/-- The reservation given up, or none made (R8). -/
theorem MapInOrder.unreserved (h : MapInOrder m rv) : MapInOrder m none :=
  { h with reservation := reservationStands_none m }

/-- A reservation changed for another that stands as the first did (R8). -/
theorem MapInOrder.reserved (h : MapInOrder m rv) {rv' : Option Reservation} (hrv : ReservationStands m rv') :
    MapInOrder m rv' :=
  { h with reservation := hrv }

/-- Without a session up no reservation stands (R8). -/
theorem MapInOrder.unstanding (h : MapInOrder m rv) (hnone : hasJournal m.state = false) (m' : Mirror) :
    ReservationStands m' rv := fun r hr hstands => by
  obtain ⟨hjournal, -⟩ := h.reservation r hr hstands
  rw [hnone] at hjournal
  cases hjournal

/-- In OFF the sweep's values are at rest, so that with a page COPYING or catch-up-active set the state is another (R34). -/
theorem MapInOrder.on_of_copying (h : MapInOrder m rv) {c : Copying} (hc : m.copying = some c) : m.state ≠ .off := by
  intro hoff
  obtain ⟨-, hnone, -⟩ := h.atRest hoff
  cases hnone.symm.trans hc

/-- A standing reservation has its page COPYING (R8, R38). -/
theorem MapInOrder.copying_of_reserved (h : MapInOrder m rv) {r : Reservation} (hr : rv = some r)
    (hstands : r.cancelled = false) : ∃ c, m.copying = some c := by
  obtain ⟨-, c, hc, -⟩ := h.reservation r hr hstands
  exact ⟨c, hc⟩

/-- The recopy flag is not read (R36). -/
theorem MapInOrder.touched (h : MapInOrder m rv) (p : Nat) : MapInOrder (m.touch p) rv := by
  have hcopying {c : Copying} (hc : c ∈ (m.touch p).copying) :
      ∃ old, m.copying = some old ∧ c.page = old.page ∧ c.next = old.next := by
    obtain ⟨old, hold, rfl⟩ := Option.map_eq_some_iff.1 hc
    refine ⟨old, hold, ?_⟩
    split <;> exact ⟨rfl, rfl⟩
  exact { h with
    copyingMarked := fun c hc => by
      obtain ⟨old, hold, hpage, -⟩ := hcopying hc
      rw [hpage]
      exact h.copyingMarked old hold
    atRest := fun hoff => by
      obtain ⟨hmarks, hnone, hrest⟩ := h.atRest hoff
      exact ⟨hmarks, congrArg (Option.map _) hnone, hrest⟩
    noCopying := fun hnone => congrArg (Option.map _) (h.noCopying hnone)
    reservation := fun r hr hstands => by
      obtain ⟨hjournal, c, hc, hpage, hnext⟩ := h.reservation r hr hstands
      refine ⟨hjournal, _, Option.map_eq_some_iff.2 ⟨c, hc, rfl⟩, ?_⟩
      split <;> exact ⟨hpage, hnext⟩ }

/-- Catch-up-active set outside OFF; STREAMING becomes CATCHUP (R29). -/
theorem MapInOrder.caughtUp (h : MapInOrder m rv) (hon : m.state ≠ .off) : MapInOrder m.setCatchup rv := by
  have hjournal : hasJournal m.setCatchup.state = hasJournal m.state := by
    dsimp only [Mirror.setCatchup]
    split
    · next hs => rw [hs]; rfl
    · rfl
  have hother {x : MirrorState} (hx : x ≠ .catchup) (hs : m.setCatchup.state = x) : m.state = x ∧ x ≠ .streaming := by
    dsimp only [Mirror.setCatchup] at hs
    split at hs
    · exact absurd hs.symm hx
    · next hne => exact ⟨hs, fun heq => hne (hs.trans heq)⟩
  exact { h with
    atRest := fun hoff => absurd (hother (x := .off) nofun hoff).1 hon
    inactive := nofun
    streaming := fun hs => absurd rfl (hother (x := .streaming) nofun hs).2
    active := fun _ => rfl
    cleanArmed := fun harmed => by
      dsimp only [Mirror.setCatchup]
      rw [h.cleanArmed harmed]
      rfl
    noCopying := fun hnone => h.noCopying (hjournal.symm.trans hnone)
    reservation := fun r hr hstands => by
      obtain ⟨hup, hchunk⟩ := h.reservation r hr hstands
      exact ⟨hjournal.trans hup, hchunk⟩ }

/-- A page joins the map with catch-up-active set (R33). -/
theorem MapInOrder.inserted (h : MapInOrder m rv) (p : Nat) (hon : m.state ≠ .off) (hactive : m.catchupActive = true) :
    MapInOrder { m with marks := insertPage p m.marks } rv :=
  { h with
    ascending := insertPage_pairwise p m.marks h.ascending
    copyingMarked := fun c hc => (mem_insertPage p c.page m.marks).2 (.inr (h.copyingMarked c hc))
    atRest := fun hoff => absurd hoff hon
    inactive := fun hclear => nomatch hactive.symm.trans hclear }

/-- A page marked outside OFF (R29, R33, R36). -/
theorem MapInOrder.marked (h : MapInOrder m rv) (p : Nat) (hon : m.state ≠ .off) : MapInOrder (m.mark p) rv := by
  have hset := (h.touched p).caughtUp hon
  have hstill : (m.touch p).setCatchup.state ≠ .off := by
    dsimp only [Mirror.setCatchup]
    split
    · nofun
    · exact hon
  have hmark : m.mark p = { (m.touch p).setCatchup with marks := insertPage p m.marks } := by
    rw [Mirror.mark, if_neg hon]
    rfl
  rw [hmark]
  exact hset.inserted p hstill rfl

/-- Figures that are counted outside OFF, with everything else as it was. -/
theorem MapInOrder.refigured (h : MapInOrder m rv) (hon : m.state ≠ .off)
    (hsame : m' = { m with cursor := m'.cursor, passCount := m'.passCount, copied := m'.copied, skipped := m'.skipped,
                           drainCount := m'.drainCount, drainTimer := m'.drainTimer }) : MapInOrder m' rv := by
  rw [hsame]
  exact { h with atRest := fun hoff => absurd hoff hon }

/-- The copy of a page ends: no page COPYING, with marks removed or none (R40, R41). -/
theorem MapInOrder.copyEnded (h : MapInOrder m rv) {c : Copying} (hc : m.copying = some c) {marks : List Nat}
    (hmarks : marks.Sublist m.marks) : MapInOrder { m with copying := none, marks := marks } none :=
  { h with
    ascending := h.ascending.sublist hmarks
    copyingMarked := nofun
    atRest := fun hoff => absurd hoff (h.on_of_copying hc)
    inactive := fun hclear => List.eq_nil_of_sublist_nil (h.inactive hclear ▸ hmarks)
    noCopying := fun _ => rfl
    reservation := nofun }

/-- The cursor moves past a page outside OFF (R40). -/
theorem MapInOrder.cursorMoved (h : MapInOrder m rv) (hon : m.state ≠ .off) (p : Nat) :
    MapInOrder (m.cursorPast p) rv := by
  refine h.refigured hon ?_
  unfold Mirror.cursorPast
  split <;> rfl

/-- The sweep goes on with a page of the map, none being COPYING before (R37). -/
theorem MapInOrder.copyBegun (h : MapInOrder m rv) (hnone : m.copying = none) (hup : hasJournal m.state = true) {p : Nat}
    (hp : p ∈ m.marks) (passes : Nat) : MapInOrder { m with
      copying := some { page := p, next := 0, recopy := false }, passCount := passes } rv := by
  have hon : m.state ≠ .off := fun hoff => by rw [hoff] at hup; cases hup
  exact { h with
    copyingMarked := fun c hc => by
      obtain rfl := Option.some.inj hc
      exact hp
    atRest := fun hoff => absurd hoff hon
    noCopying := fun hdown => nomatch hup.symm.trans hdown
    reservation := fun r hr hstands => by
      obtain ⟨c, hc⟩ := h.copying_of_reserved hr hstands
      cases hnone.symm.trans hc }

/-- The sweep's pick (R37). -/
theorem MapInOrder.picked (h : MapInOrder m rv) (hnone : m.copying = none) (hruns : m.sweepRuns = true) :
    MapInOrder m.pick rv := by
  have hup : hasJournal m.state = true := by rcases sweepRuns_state hruns with hs | hs <;> rw [hs] <;> rfl
  unfold Mirror.pick
  split
  · next p hp => exact h.copyBegun hnone hup (List.mem_of_find?_eq_some hp) m.passCount
  · split
    · next p ps hps => exact h.copyBegun hnone hup (hps ▸ List.mem_cons_self ..) _
    · exact h

/-- The mirror state enters OFF (R28, R29, R34). -/
theorem mapInOrder_toOff (m : Mirror) (j : Journal) : MapInOrder m.toOff j.empty.reservation where
  ascending := .nil
  copyingMarked := nofun
  atRest _ := ⟨rfl, rfl, rfl, rfl, rfl, rfl, rfl⟩
  inactive _ := rfl
  streaming := nofun
  active := by simp [Mirror.toOff]
  cleanArmed := nofun
  noCopying _ := rfl
  reservation := reservationStands_emptied _ j

/-- LINKING with no page COPYING and no reservation that stands (R29, R33). -/
theorem mapInOrder_linking (hs : m.state = .linking) (hmarks : m.marks.Pairwise (· < ·)) (hcopying : m.copying = none)
    (hinactive : m.catchupActive = false → m.marks = []) (hrv : ReservationStands m rv) : MapInOrder m rv where
  ascending := hmarks
  copyingMarked := by rw [hcopying]; nofun
  atRest hoff := nomatch hs.symm.trans hoff
  inactive := hinactive
  streaming hs' := nomatch hs.symm.trans hs'
  active hs' := by rw [hs] at hs'; rcases hs' with hs' | hs' <;> cases hs'
  cleanArmed _ := hs
  noCopying _ := hcopying
  reservation := hrv

/-- TRACKING with catch-up-active set, no page COPYING and no reservation that stands (R29, R33). -/
theorem mapInOrder_tracking (hs : m.state = .tracking) (hmarks : m.marks.Pairwise (· < ·)) (hcopying : m.copying = none)
    (hactive : m.catchupActive = true) (harmed : m.cleanArmed = false) (hrv : ReservationStands m rv) :
    MapInOrder m rv where
  ascending := hmarks
  copyingMarked := by rw [hcopying]; nofun
  atRest hoff := nomatch hs.symm.trans hoff
  inactive hclear := nomatch hactive.symm.trans hclear
  streaming hs' := nomatch hs.symm.trans hs'
  active _ := hactive
  cleanArmed harmed' := nomatch harmed.symm.trans harmed'
  noCopying _ := hcopying
  reservation := hrv

end

/-! ### The events -/

/-- In OFF with no page COPYING marks change the map alone (R29, R36). -/
theorem markAll_off (ps : List Nat) {m : Mirror} (hoff : m.state = .off) (hnone : m.copying = none) :
    m.markAll ps = { m with marks := (m.markAll ps).marks } := by
  induction ps generalizing m with
  | nil => rfl
  | cons p ps ih =>
    have hmark : m.mark p = { m with marks := insertPage p m.marks } := by
      rw [Mirror.mark, if_pos hoff, Mirror.touch, hnone]
      rfl
    have hrest := ih (m := m.mark p) (by rw [hmark]; exact hoff) (by rw [hmark]; exact hnone)
    rw [show m.markAll (p :: ps) = (m.mark p).markAll ps from rfl, hrest, hmark]

/-- Voiding keeps the reservation (R14). -/
theorem reservation_void (id : Nat) (j : Journal) : (j.void id).reservation = j.reservation := by
  unfold Journal.void
  split <;> rfl

/-- What the journal hands over is the entry at the send point: a SENT one again, or a READY one with the next sequence (R17). -/
theorem take_cases {w : Nat} {j : Journal} {k : JTake} (h : j.take w = some k) :
    ∃ e, j.entries[j.sendPoint]? = some e ∧
      ((∃ q, e.state = .sent q ∧ k = ⟨e.body, q, true, { j with sendPoint := j.sendPoint + 1 }⟩)
      ∨ (e.state = .ready ∧ j.sentCount < w ∧ k = ⟨e.body, j.nextSeq, false, { j with
          entries := j.entries.set j.sendPoint { e with state := .sent j.nextSeq }, sendPoint := j.sendPoint + 1,
          lastSeq := some j.nextSeq }⟩)) := by
  unfold Journal.take at h
  split at h
  · cases h
  · next e he =>
    refine ⟨e, he, ?_⟩
    split at h
    · next q hq => exact .inl ⟨q, hq, (Option.some.inj h).symm⟩
    · next hready =>
      split at h
      · next hroom => exact .inr ⟨hready, hroom, (Option.some.inj h).symm⟩
      · cases h
    · cases h

/-- The next entry to send handed over keeps the reservation (R17). -/
theorem reservation_take {w : Nat} {j : Journal} {k : JTake} (h : j.take w = some k) :
    k.journal.reservation = j.reservation := by
  obtain ⟨e, -, ⟨q, -, rfl⟩ | ⟨-, -, rfl⟩⟩ := take_cases h <;> rfl

/-- Every event of the mirroring side keeps the map in order. -/
theorem MirrorEvent.mapInOrder {a b : MirrorSide} (h : MirrorEvent a b) (ha : MapInOrder a.mirror a.journal.reservation) :
    MapInOrder b.mirror b.journal.reservation := by
  cases h with
  | viewed | taken | settled | captured | confirmed | rewound | removed | windowWritten => exact ha
  | voided t e id => exact ha.reserved (by rw [reservation_void]; exact ha.reservation)
  | sent k hk => exact ha.reserved (by rw [reservation_take hk]; exact ha.reservation)
  | touched p => exact ha.touched p
  | marked p hon => exact ha.marked p hon
  | caughtUp hstate => exact ha.caughtUp (by rcases hstate with hs | hs <;> simp [hs])
  | counted n => exact { ha with }
  | picked hnone hruns => exact ha.picked hnone hruns
  | issued c i hc hruns =>
    refine ha.reserved fun r hr _ => ?_
    obtain rfl := Option.some.inj hr
    exact ⟨by rcases sweepRuns_state hruns with hs | hs <;> rw [hs] <;> rfl, c, hc, rfl, rfl⟩
  | lineAnswered rv answers hrv =>
    refine ha.reserved fun r hr hstands => ?_
    obtain rfl := Option.some.inj hr
    exact ha.reservation rv hrv hstands
  | chunkDropped => exact ha.unreserved
  | chunkAppended => exact ha.unreserved
  | chunkFaulted rv hrv hstands =>
    obtain ⟨c, hc⟩ := ha.copying_of_reserved hrv hstands
    have hon := ha.on_of_copying hc
    have hended := ha.copyEnded hc (List.filter_sublist (p := fun p => p ≠ rv.page))
    exact (hended.refigured (m' := { a.mirror with
      copying := none, marks := a.mirror.marks.filter (fun p => p ≠ rv.page),
      skipped := addSat Config.countTop a.mirror.skipped 1 }) hon rfl).cursorMoved hon rv.page
  | nextChunk c hc hnone =>
    have hon := ha.on_of_copying hc
    exact { ha.reserved (hnone ▸ reservationStands_none _) with
      copyingMarked := fun c' hc' => by
        obtain rfl := Option.some.inj hc'
        exact ha.copyingMarked c hc
      atRest := fun hoff => absurd hoff hon
      noCopying := fun hdown => nomatch (ha.noCopying hdown).symm.trans hc
      reservation := hnone ▸ reservationStands_none _ }
  | recopied c hc hnone =>
    dsimp only
    rw [hnone]
    exact (ha.copyEnded hc (List.Sublist.refl _)).cursorMoved (ha.on_of_copying hc) c.page
  | pageCopied c hc hnone =>
    have hon := ha.on_of_copying hc
    have hended := ha.copyEnded hc (List.filter_sublist (p := fun p => p ≠ c.page))
    dsimp only
    rw [hnone]
    exact (hended.refigured (m' := { a.mirror with
      copying := none, marks := a.mirror.marks.filter (fun p => p ≠ c.page),
      copied := addSat Config.countTop a.mirror.copied 1 }) hon rfl).cursorMoved hon c.page
  | doneAppended hruns hmarks hnone =>
    have hcopying : a.mirror.copying = none := Option.eq_none_iff_forall_not_mem.2 fun c hc => by
      have hmem := ha.copyingMarked c hc
      rw [hmarks] at hmem
      cases hmem
    have hstate : a.mirror.state = .catchup ∨ a.mirror.state = .draining := sweepRuns_state hruns
    refine { ha with
      atRest := fun hoff => ?_
      inactive := fun _ => hmarks
      streaming := fun _ => rfl
      active := fun hs => ?_
      cleanArmed := fun harmed => ?_
      noCopying := fun _ => hcopying
      reservation := hnone ▸ reservationStands_none _ }
    · rcases hstate with hs | hs <;> simp [hs] at hoff
    · rcases hstate with hs' | hs' <;> simp [hs'] at hs
    · rcases hstate with hs | hs <;> simp [hs] at harmed ⊢ <;> cases hs.symm.trans (ha.cleanArmed harmed)
  | startedFull pages hoff =>
    obtain ⟨-, hcopying, -⟩ := ha.atRest hoff
    refine mapInOrder_linking rfl (Mirror.markAll_pairwise pages _ ha.ascending) ?_ nofun
      (ha.unstanding (by rw [hoff]; rfl) _)
    show (a.mirror.markAll pages).copying = none
    rw [markAll_off pages hoff hcopying]
    exact hcopying
  | startedClean hoff =>
    obtain ⟨hmarks, hcopying, -⟩ := ha.atRest hoff
    exact mapInOrder_linking rfl ha.ascending hcopying (fun _ => hmarks) (ha.unstanding (by rw [hoff]; rfl) _)
  | relinked hs =>
    exact mapInOrder_linking rfl ha.ascending (ha.noCopying (by rw [hs]; rfl)) ha.inactive
      (ha.unstanding (by rw [hs]; rfl) _)
  | accepted hs =>
    have hcopying := ha.noCopying (by rw [hs]; rfl)
    refine { ha with
      copyingMarked := by rw [hcopying]; nofun
      atRest := fun hoff => ?_
      streaming := fun hs' => ?_
      active := fun hs' => ?_
      cleanArmed := nofun
      noCopying := fun _ => hcopying
      reservation := ha.unstanding (by rw [hs]; rfl) _ }
    · dsimp only at hoff
      split at hoff <;> cases hoff
    · dsimp only at hs'
      split at hs'
      · cases hs'
      · next hclear => simpa using hclear
    · dsimp only at hs'
      split at hs'
      · next hactive => exact hactive
      · rcases hs' with hs' | hs' <;> cases hs'
  | attemptLost hs =>
    exact mapInOrder_tracking rfl ha.ascending (ha.noCopying (by rw [hs]; rfl)) rfl rfl
      (ha.unstanding (by rw [hs]; rfl) _)
  | converted marks copied skipped cursor passCount hstate hmarks =>
    refine mapInOrder_tracking rfl (hmarks ha.ascending) rfl rfl ?_ (reservationStands_emptied _ _)
    refine Bool.eq_false_iff.2 fun harmed => ?_
    rcases hstate with hs | hs <;> cases hs.symm.trans (ha.cleanArmed harmed)
  | stopped => exact mapInOrder_toOff _ _
  | drainBegun ms hstate =>
    have hup : hasJournal a.mirror.state = true := by rcases hstate with hs | hs <;> rw [hs] <;> rfl
    exact { ha with
      atRest := nofun
      streaming := nofun
      active := by simp
      cleanArmed := fun harmed => by
        rcases hstate with hs | hs <;> cases hs.symm.trans (ha.cleanArmed harmed)
      noCopying := nofun
      reservation := fun r hr hstands => ⟨rfl, (ha.reservation r hr hstands).2⟩ }
  | reset => exact mapInOrder_toOff Mirror.reset Journal.reset

/-- Settles O54: along the events of a step the map stays in order, and a response passed back touches neither the map nor the
reservation. -/
theorem stepsKeepTheDirtyPageMap : Obligations.StepsKeepTheDirtyPageMap := by
  intro s t hcoordinated hs hstep
  rw [mapOk_iff] at hs ⊢
  rcases step_steps hstep with hsteps | ⟨-, u, -, hside⟩
  · exact hsteps.run.keeps (P := fun a => MapInOrder a.mirror a.journal.reservation) (fun _ _ h => h.mapInOrder)
      ((coordinated_iff s).1 hcoordinated) hs
  · have hmirror : t.mirror = s.mirror := congrArg MirrorSide.mirror hside
    have hjournal : t.journal = s.journal := congrArg MirrorSide.journal hside
    rwa [hmirror, hjournal]

end Sys2Proof.Proofs
end

section
/-! PROOFS. The journal's room: every event of the mirroring side keeps entries, pledges and the reservation within the places and
slots, and the pledges equal to the pledged tracking entries (R5, R6, R7, R58). -/
namespace Sys2Proof.Proofs

open Sys2Proof.Machine Sys2Proof.Safety

/-! ### Pledged tracking entries -/

/-- The number of tracking entries with a pledge (R6). -/
def pledgedCount (v : Vector TrackSlot 64) : Nat :=
  v.toList.countP slotPledged

/-- One tracking entry written. -/
theorem pledgedCount_set (v : Vector TrackSlot 64) (t : Fin 64) (x : TrackSlot) : pledgedCount (v.set t x) =
    pledgedCount v - (if slotPledged v[t] then 1 else 0) + (if slotPledged x then 1 else 0) := by
  simp only [pledgedCount, Vector.countP_toList]
  exact Vector.countP_set t.isLt

/-- A pledged entry is counted. -/
theorem pledgedCount_pos {v : Vector TrackSlot 64} {t : Fin 64} (h : slotPledged v[t] = true) : 1 ≤ pledgedCount v :=
  List.countP_pos_iff.2 ⟨v[t], Vector.mem_toList_iff.2 (Vector.getElem_mem t.isLt), h⟩

/-- Tables with the same claims have as many pledges. -/
theorem pledgedCount_kept {v w : Vector TrackSlot 64} (h : KeepsClaims v w) : pledgedCount w = pledgedCount v := by
  have hmap : w.map slotPledged = v.map slotPledged := Vector.ext fun i hi => by
    simpa using (h ⟨i, hi⟩).pledged
  have hcount (u : Vector TrackSlot 64) : pledgedCount u = (u.map slotPledged).countP id := by
    rw [Vector.countP_map, pledgedCount, Vector.countP_toList]
    rfl
  rw [hcount, hcount, hmap]

/-! ### Slots -/

/-- The slots of a list of entries (R5). -/
def slotsOf (l : List JEntry) : Nat :=
  (l.map (fun e => Machine.entrySlots e.body)).sum

/-- The slots that a journal's entries hold (R5). -/
theorem entrySlots_eq (j : Journal) : j.entrySlots = slotsOf j.entries := rfl

/-- Slots of two lists of entries, one behind the other. -/
theorem slotsOf_append (l m : List JEntry) : slotsOf (l ++ m) = slotsOf l + slotsOf m := by
  simp [slotsOf]

/-- A list of some of the entries holds no more slots (R5). -/
theorem slotsOf_sublist {l m : List JEntry} (h : l.Sublist m) : slotsOf l ≤ slotsOf m :=
  (h.map _).sum_le_sum (fun _ _ => Nat.zero_le _)

/-- The slots of an entry appended at the new end (R1, R5). -/
theorem slotsOf_appended (b : EntryBody) (st : JState) (j : Journal) :
    slotsOf (j.append b st).entries = slotsOf j.entries + Machine.entrySlots b :=
  slotsOf_append j.entries _

/-- Entries with the same bodies hold as many slots (R5). -/
theorem slotsOf_bodies {l m : List JEntry} (h : l.map JEntry.body = m.map JEntry.body) : slotsOf l = slotsOf m := by
  have hmap (l : List JEntry) : slotsOf l = ((l.map JEntry.body).map Machine.entrySlots).sum := by
    simp [slotsOf, Function.comp_def]
  rw [hmap, hmap, h]

/-- Confirmation changes no body (R13). -/
theorem confirm_bodies (id : Nat) (j : Journal) : (j.confirm id).entries.map JEntry.body = j.entries.map JEntry.body := by
  simp only [Journal.confirm, List.map_map]
  refine List.map_congr_left fun e _ => ?_
  dsimp only [Function.comp]
  split
  · split <;> rfl
  · rfl

/-- A voided entry leaves the others (R14). -/
theorem void_sublist (id : Nat) (j : Journal) : (j.void id).entries.Sublist j.entries := by
  unfold Journal.void
  split
  · exact List.eraseIdx_sublist ..
  · exact .refl _

/-- An entry written over by one that agrees with it in what is read. -/
theorem map_set_same {α β : Type} (f : α → β) {l : List α} {i : Nat} (hi : i < l.length) {x : α} (h : f x = f l[i]) :
    (l.set i x).map f = l.map f := by
  have hread : f l[i] = (l.map f)[i]'(by simpa using hi) := (List.getElem_map f).symm
  rw [List.map_set, h, hread, List.set_getElem_self]

/-- The next entry to send handed over changes no body (R17). -/
theorem take_bodies {w : Nat} {j : Journal} {k : JTake} (h : j.take w = some k) :
    k.journal.entries.map JEntry.body = j.entries.map JEntry.body := by
  obtain ⟨e, he, ⟨q, -, rfl⟩ | ⟨-, -, rfl⟩⟩ := take_cases h
  · rfl
  · obtain ⟨hlt, rfl⟩ := List.getElem?_eq_some_iff.1 he
    exact map_set_same JEntry.body hlt rfl

/-! ### Room -/

/-- The entry place that a reservation holds; it holds four slots with it (R7). -/
def reservedPlaces (rv : Option Reservation) : Nat :=
  if rv.isSome then 1 else 0

/-- The slots that a reservation holds (R7). -/
theorem reservedSlots_eq (rv : Option Reservation) : (if rv.isSome then 4 else 0) = 4 * reservedPlaces rv := by
  cases rv <;> rfl

/-- Places, slots and held places with every claim counted, and the pledges equal to the pledged tracking entries (R5 to R7,
R58). -/
structure RoomKept (j : Journal) (held : Nat) (v : Vector TrackSlot 64) : Prop where
  places : j.entries.length + j.pledges + reservedPlaces j.reservation ≤ 512
  slots : slotsOf j.entries + j.pledges + 4 * reservedPlaces j.reservation ≤ 512
  held : held + j.pledges ≤ 32
  pledges : pledgedCount v = j.pledges

/-- The room of a part is that of its journal, its held list and its tracking entries. -/
theorem roomOk_iff (s : State) : RoomOk s ↔ RoomKept s.journal s.held.length s.path.table := by
  unfold RoomOk
  rw [reservedSlots_eq]
  exact ⟨fun ⟨h₁, h₂, h₃, h₄⟩ => ⟨h₁, h₂, h₃, h₄⟩, fun h => ⟨h.places, h.slots, h.held, h.pledges⟩⟩

/-- Free entry places, with every claim counted (R7). -/
theorem freeEntries_eq (j : Journal) :
    j.freeEntries = 512 - j.entries.length - j.pledges - reservedPlaces j.reservation := rfl

/-- Free slots, with every claim counted (R7). -/
theorem freeSlots_eq (j : Journal) :
    j.freeSlots = 512 - slotsOf j.entries - j.pledges - 4 * reservedPlaces j.reservation := by
  rw [Journal.freeSlots, reservedSlots_eq]
  rfl

section
variable {j j' : Journal} {held : Nat} {v : Vector TrackSlot 64}

/-- A journal that holds no more entries, slots and reservations, with the pledges as they were (R5, R7). -/
theorem RoomKept.shrunk (h : RoomKept j held v) (hlength : j'.entries.length ≤ j.entries.length)
    (hslots : slotsOf j'.entries ≤ slotsOf j.entries)
    (hreserved : reservedPlaces j'.reservation ≤ reservedPlaces j.reservation) (hpledges : j'.pledges = j.pledges) :
    RoomKept j' held v := by
  obtain ⟨hplaces₀, hslots₀, hheld, hcount⟩ := h
  exact ⟨by omega, by omega, by omega, hcount.trans hpledges.symm⟩

/-- A journal with some of the entries, and nothing else changed that holds room (R5). -/
theorem RoomKept.removed (h : RoomKept j held v) (hsub : j'.entries.Sublist j.entries)
    (hreserved : j'.reservation = j.reservation) (hpledges : j'.pledges = j.pledges) : RoomKept j' held v :=
  h.shrunk hsub.length_le (slotsOf_sublist hsub) (hreserved ▸ Nat.le_refl _) hpledges

/-- A journal with the same bodies, and nothing else changed that holds room (R5). -/
theorem RoomKept.bodies (h : RoomKept j held v) (hbodies : j'.entries.map JEntry.body = j.entries.map JEntry.body)
    (hreserved : j'.reservation = j.reservation) (hpledges : j'.pledges = j.pledges) : RoomKept j' held v := by
  have hlength : j'.entries.length = j.entries.length := by simpa using congrArg List.length hbodies
  exact h.shrunk hlength.le (slotsOf_bodies hbodies).le (hreserved ▸ Nat.le_refl _) hpledges

/-- The journal emptied as a whole keeps a reservation's claim (R8, R23). -/
theorem RoomKept.emptied (h : RoomKept j held v) : RoomKept j.empty held v := by
  refine h.shrunk (Nat.zero_le _) (Nat.zero_le _) ?_ rfl
  simp [Journal.empty, reservedPlaces]

/-- An entry appended in free room (R5, R7). -/
theorem RoomKept.appended (h : RoomKept j held v) {b : EntryBody} (st : JState)
    (hplaces : j.entries.length + 1 + j.pledges + reservedPlaces j.reservation ≤ 512)
    (hslots : slotsOf j.entries + entrySlots b + j.pledges + 4 * reservedPlaces j.reservation ≤ 512) :
    RoomKept (j.append b st) held v where
  places := by
    have hlength : (j.append b st).entries.length = j.entries.length + 1 := List.length_append
    rw [hlength]
    exact hplaces
  slots := by
    rw [slotsOf_appended]
    exact hslots
  held := h.held
  pledges := h.pledges

/-- A pledge given up is that of one tracking entry in use (R6, R58). -/
theorem pledgedCount_given {t : Fin 64} {e e' : TrackEntry} (hcount : pledgedCount v = j.pledges) (ht : v[t] = .used e)
    (hpledge : e'.pledge = false) : pledgedCount (v.set t (.used e')) = (pledgeGiven e j).pledges := by
  have hset := pledgedCount_set v t (.used e')
  rw [ht, hcount] at hset
  cases he : e.pledge <;> simpa [slotPledged, he, hpledge, pledgeGiven] using hset

/-- A write whose forward event gives its pledge up (R6, R58). -/
theorem RoomKept.settled (h : RoomKept j held v) {t : Fin 64} {e e' : TrackEntry} (ht : v[t] = .used e)
    (hpledge : e'.pledge = false) : RoomKept (pledgeGiven e j) held (v.set t (.used e')) := by
  have hless : (pledgeGiven e j).pledges ≤ j.pledges := by
    dsimp only [pledgeGiven]
    split <;> omega
  exact {
    places := Nat.le_trans (Nat.add_le_add_right (Nat.add_le_add_left hless _) _) h.places
    slots := Nat.le_trans (Nat.add_le_add_right (Nat.add_le_add_left hless _) _) h.slots
    held := Nat.le_trans (Nat.add_le_add_left hless _) h.held
    pledges := pledgedCount_given h.pledges ht hpledge }

/-- Another number of held records (R58). -/
theorem RoomKept.holding (h : RoomKept j held v) {held' : Nat} (hheld : held' + j.pledges ≤ 32) : RoomKept j held' v :=
  { h with held := hheld }

/-- A write that becomes an entry in the room of its pledge, or in free room (R6, R7, R9, R60). -/
theorem RoomKept.captured (h : RoomKept j held v) {t : Fin 64} {e e' : TrackEntry} {b : EntryBody} {held' : Nat}
    (ht : v[t] = .used e) (hpledge : e'.pledge = false)
    (hroom : (e.pledge = true ∧ entrySlots b ≤ 1 ∧ held' ≤ held + 1)
      ∨ (1 ≤ (pledgeGiven e j).freeEntries ∧ entrySlots b ≤ (pledgeGiven e j).freeSlots
        ∧ (held' ≤ held ∨ held' + (pledgeGiven e j).pledges ≤ 32))) :
    RoomKept ((pledgeGiven e j).append b (.awaiting t)) held' (v.set t (.used e')) := by
  have hsettled := h.settled ht hpledge
  obtain ⟨hplaces, hslots, hheld, hcount⟩ := h
  rcases hroom with ⟨hpledged, hb, hh⟩ | ⟨hentries, hb, hh⟩
  · have hpos : 1 ≤ j.pledges := hcount ▸ pledgedCount_pos (t := t) (by rw [ht]; exact hpledged)
    have hgiven : (pledgeGiven e j).pledges = j.pledges - 1 := if_pos hpledged
    refine (hsettled.holding ?_).appended _ ?_ ?_
    · omega
    · show j.entries.length + 1 + (pledgeGiven e j).pledges + reservedPlaces j.reservation ≤ 512
      omega
    · show slotsOf j.entries + entrySlots b + (pledgeGiven e j).pledges + 4 * reservedPlaces j.reservation ≤ 512
      omega
  · rw [freeEntries_eq] at hentries
    rw [freeSlots_eq] at hb
    have hheld' := hsettled.held
    have hslots' := hsettled.slots
    exact (hsettled.holding (by omega)).appended _ (by omega) (by omega)

/-- A request taken, with room for its pledge if it has one (R6, R58). -/
theorem RoomKept.taken (h : RoomKept j held v) {t : Fin 64} {e : TrackEntry} (hfree : v[t] = .free)
    (hroom : e.pledge = true → 1 ≤ j.freeEntries ∧ 1 ≤ j.freeSlots ∧ held + j.pledges < 32) :
    RoomKept { j with pledges := j.pledges + if e.pledge then 1 else 0 } held (v.set t (.used e)) := by
  obtain ⟨hplaces, hslots, hheld, hcount⟩ := h
  have hset := pledgedCount_set v t (.used e)
  rw [hfree, hcount] at hset
  rw [freeEntries_eq, freeSlots_eq] at hroom
  cases he : e.pledge with
  | false => exact ⟨hplaces, hslots, hheld, by simpa [slotPledged, he] using hset⟩
  | true =>
    obtain ⟨hentries, hfreeSlots, hheldFree⟩ := hroom he
    refine ⟨?_, ?_, ?_, by simpa [slotPledged, he] using hset⟩
    · show j.entries.length + (j.pledges + 1) + reservedPlaces j.reservation ≤ 512
      omega
    · show slotsOf j.entries + (j.pledges + 1) + 4 * reservedPlaces j.reservation ≤ 512
      omega
    · show held + (j.pledges + 1) ≤ 32
      omega

/-- A tracking entry written that had no pledge and has none (R6). -/
theorem RoomKept.entryUnpledged (h : RoomKept j held v) {t : Fin 64} {x : TrackSlot} (hold : slotPledged v[t] = false)
    (hnew : slotPledged x = false) : RoomKept j held (v.set t x) :=
  { h with pledges := by rw [pledgedCount_set, hold, hnew]; exact h.pledges }

/-- The capture link of an entry in use dropped (R13, R14). -/
theorem RoomKept.unlinked (h : RoomKept j held v) {t : Fin 64} {e : TrackEntry} (ht : v[t] = .used e) :
    RoomKept j held (v.set t (.used { e with capture := none })) :=
  { h with pledges := (pledgedCount_kept (.set (ht ▸ ⟨rfl, .inr rfl⟩))).trans h.pledges }

/-- A reservation made in its room (R7, R8). -/
theorem RoomKept.issued (h : RoomKept j held v) (hnone : j.reservation = none)
    (hroom : 1 ≤ j.freeEntries ∧ 4 ≤ j.freeSlots) (rv : Reservation) :
    RoomKept { j with reservation := some rv } held v := by
  obtain ⟨hplaces, hslots, hheld, hcount⟩ := h
  rw [freeEntries_eq, freeSlots_eq, hnone] at hroom
  obtain ⟨hentries, hfreeSlots⟩ := hroom
  refine ⟨?_, ?_, hheld, hcount⟩
  · show j.entries.length + j.pledges + 1 ≤ 512
    omega
  · show slotsOf j.entries + j.pledges + 4 ≤ 512
    omega

end

/-! ### The events -/

/-- The next entry to send handed over keeps the pledges (R17). -/
theorem take_pledges {w : Nat} {j : Journal} {k : JTake} (h : j.take w = some k) : k.journal.pledges = j.pledges := by
  obtain ⟨e, -, ⟨q, -, rfl⟩ | ⟨-, -, rfl⟩⟩ := take_cases h <;> rfl

/-- Voiding keeps the pledges (R14). -/
theorem void_pledges (id : Nat) (j : Journal) : (j.void id).pledges = j.pledges := by
  unfold Journal.void
  split <;> rfl

/-- A table in which no entry has a pledge (R103). -/
theorem pledgedCount_unused {v : Vector TrackSlot 64} (h : ∀ t : Fin 64, slotPledged v[t] = false) :
    pledgedCount v = 0 := by
  refine List.countP_eq_zero.2 fun x hx => ?_
  obtain ⟨i, hi, rfl⟩ := Vector.mem_iff_getElem.1 (Vector.mem_toList_iff.1 hx)
  rw [show v[i] = v[(⟨i, hi⟩ : Fin 64)] from rfl, h]
  nofun

/-- Every event of the mirroring side keeps the room. -/
theorem MirrorEvent.roomKept {a b : MirrorSide} (h : MirrorEvent a b)
    (ha : RoomKept a.journal a.held.length a.table) : RoomKept b.journal b.held.length b.table := by
  cases h with
  | viewed table held htable hheld =>
    exact { ha with
      held := Nat.le_trans (Nat.add_le_add_right hheld _) ha.held
      pledges := (pledgedCount_kept htable).trans ha.pledges }
  | taken t e hfree hcapture hroom => exact ha.taken hfree hroom
  | settled t e e' ht hpledge => exact ha.settled ht hpledge
  | captured t e e' b held ht hpledge hcapture hstate hroom => exact ha.captured ht hpledge hroom
  | confirmed t e id ht => exact (ha.unlinked ht).bodies (confirm_bodies id a.journal) rfl rfl
  | voided t e id ht =>
    exact (ha.unlinked ht).removed (void_sublist id a.journal) (reservation_void ..) (void_pledges ..)
  | touched | marked | caughtUp | counted | picked | nextChunk | recopied | pageCopied => exact ha
  | issued c i hc hruns hnone hroom => exact ha.issued hnone hroom _
  | lineAnswered rv answers hrv =>
    exact ha.shrunk (Nat.le_refl _) (Nat.le_refl _) (by rw [hrv]; exact Nat.le_refl _) rfl
  | chunkDropped => exact ha.shrunk (Nat.le_refl _) (Nat.le_refl _) (Nat.zero_le _) rfl
  | chunkFaulted => exact ha.shrunk (Nat.le_refl _) (Nat.le_refl _) (Nat.zero_le _) rfl
  | chunkAppended rv bytes hrv =>
    have hdropped := ha.shrunk (j' := { a.journal with reservation := none }) (Nat.le_refl _) (Nat.le_refl _)
      (Nat.zero_le _) rfl
    obtain ⟨hplaces, hslots, -, -⟩ := ha
    rw [hrv] at hplaces hslots
    have hone : reservedPlaces (some rv) = 1 := rfl
    have hnone : reservedPlaces none = 0 := rfl
    refine hdropped.appended .ready ?_ ?_
    · dsimp only
      omega
    · have hfour : entrySlots (.page rv.page rv.chunk rv.region bytes) = 4 := rfl
      dsimp only
      omega
  | doneAppended hruns hmarks hnone hroom =>
    have hslots := ha.slots
    have hplaces := ha.places
    rw [freeEntries_eq] at hroom
    refine ha.appended .ready (by omega) ?_
    have hzero : entrySlots (.done a.mirror.copied a.mirror.skipped) = 0 := rfl
    omega
  | sent k hk => exact ha.bodies (take_bodies hk) (reservation_take hk) (take_pledges hk)
  | rewound => exact ha.shrunk (Nat.le_refl _) (Nat.le_refl _) (Nat.le_refl _) rfl
  | removed d => exact ha.removed (List.drop_sublist ..) rfl rfl
  | startedFull | startedClean | relinked => exact ha.shrunk (Nat.le_refl _) (Nat.le_refl _) (Nat.le_refl _) rfl
  | accepted | attemptLost | drainBegun | windowWritten => exact ha
  | converted => exact ha.emptied
  | stopped => exact ha.emptied
  | reset table w hunused =>
    exact ⟨Nat.zero_le _, Nat.zero_le _, Nat.zero_le _, pledgedCount_unused fun t => (hunused t).1⟩

/-- Settles O58: every event leaves its claims within the room, and the entry of a response passed back had no pledge. -/
theorem stepsKeepTheJournalsRoom : Obligations.StepsKeepTheJournalsRoom := by
  intro s t hpath hs hstep
  rw [roomOk_iff] at hs ⊢
  rcases step_steps hstep with hsteps | ⟨-, u, hu, hside⟩
  · exact hsteps.run.keeps_unread (P := fun a => RoomKept a.journal a.held.length a.table) (fun _ _ h => h.roomKept)
      (fun _ _ _ h => h) hs
  · obtain ⟨-, -, -, hanswering, hqueued, -⟩ := hpath
    have hunpledged : slotPledged s.path.table[u] = false := Bool.eq_false_iff.2 fun hpledged => by
      have hstate := (hanswering u).1 hu
      rw [hqueued u hpledged] at hstate
      cases hstate
    have hjournal : t.journal = s.journal := congrArg MirrorSide.journal hside
    have hheld : t.held = s.held := congrArg MirrorSide.held hside
    have htable : t.path.table = s.path.table.set u .free := congrArg MirrorSide.table hside
    rw [hjournal, hheld, htable]
    exact hs.entryUnpledged hunpledged rfl

end Sys2Proof.Proofs
end

section
/-! PROOFS. The capture links: every event of the mirroring side keeps the entries numbered each once, and each link at the
AWAITING entry of its own write (R2, R9, R13, R88). -/
namespace Sys2Proof.Proofs

open Sys2Proof.Machine Sys2Proof.Safety

/-- The entries are numbered below the next number, each once, and a capture link names an AWAITING entry of its own write, or
none (R2, R9, R13, R88). -/
structure LinksKept (j : Journal) (v : Vector TrackSlot 64) : Prop where
  unique : (j.entries.map JEntry.id).Nodup
  numbered : ∀ e ∈ j.entries, e.id < j.nextId
  linkNumbered : ∀ t : Fin 64, ∀ id, slotCapture v[t] = some id → id < j.nextId
  awaiting : ∀ t : Fin 64, ∀ id, slotCapture v[t] = some id → ∀ e ∈ j.entries, e.id = id → e.state = .awaiting t

/-- The capture links of a part are those of its tracking entries into its journal. -/
theorem capturesOk_iff (s : State) : CapturesOk s ↔ LinksKept s.journal s.path.table :=
  ⟨fun ⟨hunique, hnumbered, hlinks⟩ =>
    ⟨hunique, hnumbered, fun t id ht => (hlinks t id ht).1, fun t id ht => (hlinks t id ht).2⟩,
    fun h => ⟨h.unique, h.numbered, fun t id ht => ⟨h.linkNumbered t id ht, h.awaiting t id ht⟩⟩⟩

section
variable {j j' : Journal} {v w : Vector TrackSlot 64}

/-- Links kept or dropped, in a table changed otherwise (R99). -/
theorem LinksKept.relinked (h : LinksKept j v)
    (hlinks : ∀ t : Fin 64, slotCapture w[t] = slotCapture v[t] ∨ slotCapture w[t] = none) : LinksKept j w := by
  have hold (t : Fin 64) (id : Nat) (ht : slotCapture w[t] = some id) : slotCapture v[t] = some id := by
    rcases hlinks t with heq | hnone
    · rwa [← heq]
    · cases hnone.symm.trans ht
  exact { h with
    linkNumbered := fun t id ht => h.linkNumbered t id (hold t id ht)
    awaiting := fun t id ht => h.awaiting t id (hold t id ht) }

/-- One tracking entry written with the link it had, or with none (R99). -/
theorem LinksKept.entryWritten (h : LinksKept j v) (t : Fin 64) {x : TrackSlot} (hx : slotCapture x = none) :
    LinksKept j (v.set t x) :=
  h.relinked fun u => by
    by_cases hu : u = t
    · subst hu
      rw [getElem_set_same]
      exact .inr hx
    · rw [getElem_set_other _ _ hu]
      exact .inl rfl

/-- A journal with some of the entries, the numbering going on where it stood (R14, R21). -/
theorem LinksKept.removed (h : LinksKept j v) (hsub : j'.entries.Sublist j.entries) (hnext : j'.nextId = j.nextId) :
    LinksKept j' v where
  unique := h.unique.sublist (hsub.map _)
  numbered e he := hnext ▸ h.numbered e (hsub.subset he)
  linkNumbered t id ht := hnext ▸ h.linkNumbered t id ht
  awaiting t id ht e he := h.awaiting t id ht e (hsub.subset he)

/-- An entry appended with the next number, which no link names (R1). -/
theorem LinksKept.appended (h : LinksKept j v) (b : EntryBody) (st : JState) : LinksKept (j.append b st) v where
  unique := by
    have hnew : ∀ e ∈ j.entries, e.id ≠ j.nextId := fun e he => Nat.ne_of_lt (h.numbered e he)
    rw [Journal.append, List.map_append, List.nodup_append]
    exact ⟨h.unique, List.nodup_singleton _, by simpa using hnew⟩
  numbered e he := by
    rcases List.mem_append.1 he with hold | hnew
    · exact Nat.lt_succ_of_lt (h.numbered e hold)
    · obtain rfl := List.mem_singleton.1 hnew
      exact Nat.lt_succ_self _
  linkNumbered t id ht := Nat.lt_succ_of_lt (h.linkNumbered t id ht)
  awaiting t id ht e he hid := by
    rcases List.mem_append.1 he with hold | hnew
    · exact h.awaiting t id ht e hold hid
    · obtain rfl := List.mem_singleton.1 hnew
      exact absurd hid (Nat.ne_of_gt (h.linkNumbered t id ht))

/-- The link of a write at the entry just appended for it (R9). -/
theorem LinksKept.linked (h : LinksKept j v) (b : EntryBody) {t : Fin 64} {e : TrackEntry}
    (he : e.capture = some j.nextId) : LinksKept (j.append b (.awaiting t)) (v.set t (.used e)) := by
  obtain ⟨hunique, hnumbered, hlinks, hawaiting⟩ := h.appended b (.awaiting t)
  refine ⟨hunique, hnumbered, fun u id hu => ?_, fun u id hu x hx hid => ?_⟩
  · by_cases hut : u = t
    · subst hut
      rw [getElem_set_same] at hu
      obtain rfl := Option.some.inj (he.symm.trans hu)
      exact Nat.lt_succ_self _
    · rw [getElem_set_other _ _ hut] at hu
      exact hlinks u id hu
  · by_cases hut : u = t
    · subst hut
      rw [getElem_set_same] at hu
      obtain rfl := Option.some.inj (he.symm.trans hu)
      rcases List.mem_append.1 hx with hold | hnew
      · exact absurd hid (Nat.ne_of_lt (h.numbered x hold))
      · obtain rfl := List.mem_singleton.1 hnew
        rfl
    · rw [getElem_set_other _ _ hut] at hu
      exact hawaiting u id hu x hx hid

/-- Entries changed in their state alone, where no link names an entry that changes (R13, R17). -/
theorem LinksKept.restated (h : LinksKept j v) (hids : j'.entries.map JEntry.id = j.entries.map JEntry.id)
    (hnext : j'.nextId = j.nextId)
    (hunlinked : ∀ e ∈ j'.entries, e ∈ j.entries ∨ ∀ t : Fin 64, slotCapture v[t] ≠ some e.id) : LinksKept j' v where
  unique := hids ▸ h.unique
  numbered e he := by
    obtain ⟨x, hx, hid⟩ := List.mem_map.1 (hids ▸ List.mem_map_of_mem he : e.id ∈ j.entries.map JEntry.id)
    rw [← hid, hnext]
    exact h.numbered x hx
  linkNumbered t id ht := hnext ▸ h.linkNumbered t id ht
  awaiting t id ht e he heq := by
    rcases hunlinked e he with hold | hnone
    · exact h.awaiting t id ht e hold heq
    · exact absurd (heq ▸ ht) (hnone t)

/-- Two writes whose links name one entry are one write (R9). -/
theorem LinksKept.same_write (h : LinksKept j v) {t u : Fin 64} {id : Nat} (ht : slotCapture v[t] = some id)
    (hu : slotCapture v[u] = some id) {e : JEntry} (he : e ∈ j.entries) (hid : e.id = id) : u = t := by
  have hstate := h.awaiting t id ht e he hid
  rw [h.awaiting u id hu e he hid] at hstate
  exact JState.awaiting.inj hstate

/-- A captured write answered OKAY: its entry READY, its link dropped (R13). -/
theorem LinksKept.confirmed (h : LinksKept j v) {t : Fin 64} {e : TrackEntry} {id : Nat} (ht : v[t] = .used e)
    (he : e.capture = some id) : LinksKept (j.confirm id) (v.set t (.used { e with capture := none })) := by
  have hown : slotCapture v[t] = some id := by rw [ht]; exact he
  refine (h.entryWritten t (x := .used { e with capture := none }) rfl).restated ?_ rfl fun x hx => ?_
  · rw [Journal.confirm, List.map_map]
    refine List.map_congr_left fun x _ => ?_
    dsimp only [Function.comp]
    split
    · split <;> rfl
    · rfl
  · obtain ⟨y, hy, rfl⟩ := List.mem_map.1 hx
    split
    · next hid =>
      refine .inr fun u hu => ?_
      have hother : u ≠ t := fun hut => by
        rw [hut, getElem_set_same] at hu
        cases hu
      rw [getElem_set_other _ _ hother] at hu
      refine hother (h.same_write hown (hu.trans (congrArg some ?_)) hy hid)
      rw [← hid]
      split <;> rfl
    · exact .inl hy

end

/-- The entry handed over is no AWAITING one (R16, R17). -/
theorem LinksKept.sent {w : Nat} {j : Journal} {k : JTake} {v : Vector TrackSlot 64} (h : LinksKept j v)
    (hk : j.take w = some k) : LinksKept k.journal v := by
  obtain ⟨e, he, ⟨q, -, rfl⟩ | ⟨hready, -, rfl⟩⟩ := take_cases hk
  · exact h.removed (List.Sublist.refl _) rfl
  · obtain ⟨hlt, rfl⟩ := List.getElem?_eq_some_iff.1 he
    refine h.restated ?_ rfl fun x hx => ?_
    · exact map_set_same JEntry.id hlt rfl
    · rcases List.mem_or_eq_of_mem_set hx with hold | rfl
      · exact .inl hold
      · refine .inr fun t ht => ?_
        cases hready.symm.trans (h.awaiting t _ ht _ (List.getElem_mem hlt) rfl)

/-- Voiding keeps the numbering (R14). -/
theorem void_nextId (id : Nat) (j : Journal) : (j.void id).nextId = j.nextId := by
  unfold Journal.void
  split <;> rfl

/-- A captured write answered ERROR: its entry removed, its link dropped (R14). -/
theorem LinksKept.voided {j : Journal} {v : Vector TrackSlot 64} (h : LinksKept j v) (t : Fin 64) (e : TrackEntry)
    (id : Nat) : LinksKept (j.void id) (v.set t (.used { e with capture := none })) :=
  (h.entryWritten t (x := .used { e with capture := none }) rfl).removed (void_sublist id j) (void_nextId id j)

/-- Without a capture link an empty journal has all its links at AWAITING entries (R99, R100). -/
theorem linksKept_empty {j : Journal} {v : Vector TrackSlot 64} (hempty : j.entries = [])
    (hnone : ∀ t : Fin 64, slotCapture v[t] = none) : LinksKept j v where
  unique := by rw [hempty]; exact .nil
  numbered := by rw [hempty]; nofun
  linkNumbered t id ht := nomatch (hnone t).symm.trans ht
  awaiting t id ht := nomatch (hnone t).symm.trans ht

/-- Every event of the mirroring side keeps the capture links at their own entries. -/
theorem MirrorEvent.linksKept {a b : MirrorSide} (h : MirrorEvent a b) (ha : LinksKept a.journal a.table) :
    LinksKept b.journal b.table := by
  cases h with
  | viewed table held htable => exact ha.relinked fun t => (htable t).capture
  | taken t e hfree hcapture =>
    exact (ha.entryWritten t (x := .used e) hcapture).removed (List.Sublist.refl _) rfl
  | settled t e e' ht hpledge hcapture =>
    exact (ha.entryWritten t (x := .used e') hcapture).removed (List.Sublist.refl _) rfl
  | captured t e e' b held ht hpledge hcapture =>
    exact (ha.removed (j' := pledgeGiven e a.journal) (List.Sublist.refl _) rfl).linked b hcapture
  | confirmed t e id ht hcapture => exact ha.confirmed ht hcapture
  | voided t e id => exact ha.voided t e id
  | touched | marked | caughtUp | counted | picked | nextChunk | recopied | pageCopied => exact ha
  | issued | lineAnswered | chunkDropped | chunkFaulted => exact ha.removed (List.Sublist.refl _) rfl
  | chunkAppended =>
    exact (ha.removed (j' := { a.journal with reservation := none }) (List.Sublist.refl _) rfl).appended _ _
  | doneAppended => exact ha.appended _ _
  | sent k hk => exact ha.sent hk
  | rewound => exact ha.removed (List.Sublist.refl _) rfl
  | removed d => exact ha.removed (List.drop_sublist ..) rfl
  | startedFull | startedClean | relinked => exact ha.removed (List.Sublist.refl _) rfl
  | accepted | attemptLost | drainBegun | windowWritten => exact ha
  | converted _ _ _ _ _ _ _ huncaptured => exact linksKept_empty rfl huncaptured
  | stopped huncaptured => exact linksKept_empty rfl huncaptured
  | reset table w hunused => exact linksKept_empty rfl fun t => (hunused t).2

/-- Settles O59: every event keeps the links at their own entries, and a response passed back drops one or none. -/
theorem stepsKeepTheCaptureLinks : Obligations.StepsKeepTheCaptureLinks := by
  intro s t _ hs hstep
  rw [capturesOk_iff] at hs ⊢
  rcases step_steps hstep with hsteps | ⟨-, u, -, hside⟩
  · exact hsteps.run.keeps_unread (P := fun a => LinksKept a.journal a.table) (fun _ _ h => h.linksKept)
      (fun _ _ _ h => h) hs
  · have hjournal : t.journal = s.journal := congrArg MirrorSide.journal hside
    have htable : t.path.table = s.path.table.set u .free := congrArg MirrorSide.table hside
    rw [hjournal, htable]
    exact hs.entryWritten u rfl

end Sys2Proof.Proofs
end

section
/-! PROOFS. The send order: every event of the mirroring side keeps the SENT entries first, with consecutive sequences up to the
last assigned one and within the window, and the send point at or before the first entry that is not SENT (R1, R16 to R18). -/
namespace Sys2Proof.Proofs

open Sys2Proof.Machine Sys2Proof.Safety

/-! ### The sequences of a journal -/

/-- The sequences of `n` SENT entries, the newest of which carries the one before `next` (R18). -/
def sentRun (next : SeqNum) (n : Nat) : List (Option SeqNum) :=
  (List.range n).map (fun k => some (next - BitVec.ofNat 16 (n - k)))

/-- As many sequences as SENT entries. -/
theorem sentRun_length (next : SeqNum) (n : Nat) : (sentRun next n).length = n := by
  simp [sentRun]

/-- One more entry is sent (R18). -/
theorem sentRun_succ (next : SeqNum) (n : Nat) : sentRun (next + 1) (n + 1) = sentRun next n ++ [some next] := by
  unfold sentRun
  rw [List.range_succ, List.map_append]
  congr 1
  · refine List.map_congr_left fun k hk => ?_
    have hlt := List.mem_range.1 hk
    rw [show n + 1 - k = (n - k) + 1 by omega, BitVec.ofNat_add]
    congr 1
    bv_omega
  · simp

/-- The oldest entries are removed (R21). -/
theorem sentRun_drop (next : SeqNum) (n d : Nat) : (sentRun next n).drop d = sentRun next (n - d) := by
  refine List.ext_getElem (by simp [sentRun]) fun k h₁ h₂ => ?_
  have hsub : n - (d + k) = n - d - k := by omega
  simp [sentRun, hsub]

/-- The SENT entries stand first, with consecutive sequences up to the last assigned one; `n` entries are SENT and `m` are not
(R1, R16, R18). -/
def SentFirst (j : Journal) (n m : Nat) : Prop :=
  j.entries.map JEntry.seq? = sentRun j.nextSeq n ++ List.replicate m none

section
variable {j j' : Journal} {n m : Nat}

/-- The SENT entries are those that carry a sequence (R2, R4). -/
theorem sentCount_eq (j : Journal) : j.sentCount = (j.entries.map JEntry.seq?).countP Option.isSome := by
  rw [List.countP_map]
  rfl

/-- As many entries are SENT as stand first. -/
theorem SentFirst.sentCount (h : SentFirst j n m) : j.sentCount = n := by
  have hsent : (sentRun j.nextSeq n).countP Option.isSome = n := by
    rw [List.countP_eq_length.2, sentRun_length]
    simp [sentRun]
  rw [sentCount_eq, h, List.countP_append, hsent, List.countP_replicate]
  simp

/-- Every entry is SENT or not. -/
theorem SentFirst.length (h : SentFirst j n m) : j.entries.length = n + m := by
  have hlength := congrArg List.length h
  simpa [sentRun_length] using hlength

/-- Whether an entry is SENT is told by its place (R16). -/
theorem SentFirst.sent_iff (h : SentFirst j n m) {i : Nat} {e : JEntry} (he : j.entries[i]? = some e) :
    e.isSent = true ↔ i < n := by
  have hseq : (sentRun j.nextSeq n ++ List.replicate m none)[i]? = some e.seq? := by
    rw [← h, List.getElem?_map, he]
    rfl
  by_cases hi : i < n
  · rw [List.getElem?_append_left (by rwa [sentRun_length])] at hseq
    simp only [sentRun, List.getElem?_map, List.getElem?_range hi, Option.map_some, Option.some.injEq] at hseq
    simp [JEntry.isSent, ← hseq, hi]
  · rw [List.getElem?_append_right (by rw [sentRun_length]; omega)] at hseq
    have hnone := (List.mem_replicate.1 (List.mem_of_getElem? hseq)).2
    simp [JEntry.isSent, hnone, hi]

/-- Entries with the same sequences, under the same last assigned one (R18). -/
theorem SentFirst.same (h : SentFirst j n m) (hseq : j'.entries.map JEntry.seq? = j.entries.map JEntry.seq?)
    (hlast : j'.lastSeq = j.lastSeq) : SentFirst j' n m := by
  rw [SentFirst, hseq, Journal.nextSeq, hlast]
  exact h

/-- An entry that is not SENT joins at the new end (R1). -/
theorem SentFirst.appended (h : SentFirst j n m) (b : EntryBody) {st : JState} (hst : ∀ q, st ≠ .sent q) :
    SentFirst (j.append b st) n (m + 1) := by
  have hnone : JEntry.seq? { id := j.nextId, body := b, state := st } = none := by
    cases st with
    | sent q => exact absurd rfl (hst q)
    | awaiting _ => rfl
    | ready => rfl
  show (j.entries ++ [_]).map JEntry.seq? = _
  rw [List.map_append, h, List.replicate_succ', List.append_assoc, List.map_singleton, hnone]
  rfl

/-- The oldest SENT entries are removed (R21). -/
theorem SentFirst.removed (h : SentFirst j n m) {d : Nat} (hd : d ≤ n) : SentFirst (j.removeOldest d) (n - d) m := by
  show (j.entries.drop d).map JEntry.seq? = sentRun j.nextSeq (n - d) ++ _
  rw [List.map_drop, h, List.drop_append_of_le_length (by rwa [sentRun_length]), sentRun_drop]

/-- The READY entry behind the SENT ones is sent with the next sequence (R17, R18). -/
theorem SentFirst.sent (h : SentFirst j n m) {e : JEntry} (he : j.entries[n]? = some e) : SentFirst { j with
    entries := j.entries.set n { e with state := .sent j.nextSeq }, sendPoint := n + 1, lastSeq := some j.nextSeq }
    (n + 1) (m - 1) := by
  obtain ⟨hlt, -⟩ := List.getElem?_eq_some_iff.1 he
  have hm : m = (m - 1) + 1 := by
    have hlength := h.length
    omega
  show (j.entries.set n _).map JEntry.seq? = sentRun (j.nextSeq + 1) (n + 1) ++ _
  rw [List.map_set, h, sentRun_succ, List.set_append_right _ _ (by rw [sentRun_length]), sentRun_length, Nat.sub_self,
    hm, List.replicate_succ, List.set_cons_zero, List.append_assoc]
  rfl

/-- An entry that is not SENT is removed (R14). -/
theorem SentFirst.erased (h : SentFirst j n m) {i : Nat} (hn : n ≤ i) (hi : i < j.entries.length) (point : Nat) :
    SentFirst { j with entries := j.entries.eraseIdx i, sendPoint := point } n (m - 1) := by
  have hm : i - n < m := by
    have hlength := h.length
    omega
  show (j.entries.eraseIdx i).map JEntry.seq? = sentRun j.nextSeq n ++ _
  rw [← List.eraseIdx_map, h, List.eraseIdx_append_of_length_le (by rwa [sentRun_length]), sentRun_length,
    List.eraseIdx_replicate, if_pos hm]

end

/-! ### The send order -/

/-- The SENT entries first and within the window, the send point at or before the first entry that is not SENT, and the journal
empty where no session is up (R1, R16 to R18). -/
structure SendOrdered (a : MirrorSide) : Prop where
  sentFirst : SentFirst a.journal a.journal.sentCount (a.journal.entries.length - a.journal.sentCount)
  sendPoint : a.journal.sendPoint ≤ a.journal.sentCount
  unassigned : a.journal.lastSeq = none → a.journal.sentCount = 0
  window : a.journal.sentCount ≤ a.window
  empty : hasJournal a.mirror.state = false → a.journal.entries = []

/-- The send order of a part is that of its mirroring side. -/
theorem sendOrderOk_iff (s : State) : SendOrderOk s ↔ SendOrdered (mirrorSide s) :=
  ⟨fun ⟨h₁, h₂, h₃, h₄, h₅⟩ => ⟨h₁, h₂, h₃, h₄, h₅⟩,
    fun h => ⟨h.sentFirst, h.sendPoint, h.unassigned, h.window, h.empty⟩⟩

section
variable {a : MirrorSide}

/-- A journal whose SENT entries stand first, however many are not SENT. -/
theorem SendOrdered.of_sentFirst {n m : Nat} (h : SentFirst a.journal n m) (hpoint : a.journal.sendPoint ≤ n)
    (hunassigned : a.journal.lastSeq = none → n = 0) (hwindow : n ≤ a.window)
    (hempty : hasJournal a.mirror.state = false → a.journal.entries = []) : SendOrdered a := by
  obtain rfl := h.sentCount
  have hm : a.journal.entries.length - a.journal.sentCount = m := by
    rw [h.length]
    omega
  exact ⟨hm ▸ h, hpoint, hunassigned, hwindow, hempty⟩

/-- A journal without an entry. -/
theorem SendOrdered.of_empty (hentries : a.journal.entries = []) (hpoint : a.journal.sendPoint = 0) : SendOrdered a :=
  .of_sentFirst (n := 0) (m := 0) (by rw [SentFirst, hentries]; rfl) (Nat.le_of_eq hpoint) (fun _ => rfl) (Nat.zero_le _)
    fun _ => hentries

/-- Where no session is up the journal has no entry, and the send point stands at its new end (R16). -/
theorem SendOrdered.idle (h : SendOrdered a) (hnone : hasJournal a.mirror.state = false) :
    a.journal.entries = [] ∧ a.journal.sendPoint = 0 := by
  have hentries := h.empty hnone
  have hpoint := h.sendPoint
  rw [Journal.sentCount, hentries] at hpoint
  exact ⟨hentries, Nat.le_zero.1 hpoint⟩

/-- A change of the mirror block that leaves a session up or down (R28). -/
theorem SendOrdered.mirrorChanged (h : SendOrdered a) {m : Mirror}
    (hstate : hasJournal m.state = false → hasJournal a.mirror.state = false) : SendOrdered { a with mirror := m } :=
  { h with empty := fun hnone => h.empty (hstate hnone) }

/-- The same sequences, send point and last assigned sequence, in the same mirror state and under the same window. -/
theorem SendOrdered.sameSequences (h : SendOrdered a) {b : MirrorSide}
    (hseq : b.journal.entries.map JEntry.seq? = a.journal.entries.map JEntry.seq?)
    (hpoint : b.journal.sendPoint = a.journal.sendPoint) (hlast : b.journal.lastSeq = a.journal.lastSeq)
    (hwindow : b.window = a.window) (hstate : b.mirror.state = a.mirror.state) : SendOrdered b :=
  .of_sentFirst (h.sentFirst.same hseq hlast) (hpoint ▸ h.sendPoint) (fun hnone => h.unassigned (hlast ▸ hnone))
    (hwindow ▸ h.window) fun hnone => by
      have hnil := congrArg (List.map JEntry.seq?) (h.empty (hstate ▸ hnone))
      rw [← hseq] at hnil
      exact List.map_eq_nil_iff.1 hnil

/-- An entry that is not SENT appended with a session up (R1, R9 to R12). -/
theorem SendOrdered.appended (h : SendOrdered a) (hup : hasJournal a.mirror.state = true) (b : EntryBody) {st : JState}
    (hst : ∀ q, st ≠ .sent q) : SendOrdered { a with journal := a.journal.append b st } :=
  .of_sentFirst (h.sentFirst.appended b hst) h.sendPoint h.unassigned h.window
    fun hnone => nomatch hup.symm.trans hnone

/-- The entry of a captured write voided: it is not SENT, so that the send point stands before it (R14, R16). -/
theorem SendOrdered.voided (h : SendOrdered a) (hlinks : LinksKept a.journal a.table) {t : Fin 64} {e : TrackEntry}
    {id : Nat} (ht : a.table[t] = .used e) (he : e.capture = some id) :
    SendOrdered { a with journal := a.journal.void id } := by
  unfold Journal.void
  split
  · next i hfind =>
    obtain ⟨hlt, hid, -⟩ := List.findIdx?_eq_some_iff_getElem.1 hfind
    have hawaiting := hlinks.awaiting t id (by rw [ht]; exact he) _ (List.getElem_mem hlt) (eq_of_beq hid)
    have hunsent : a.journal.sentCount ≤ i := Nat.le_of_not_lt fun hi => by
      have hsent := (h.sentFirst.sent_iff (List.getElem?_eq_getElem hlt)).2 hi
      rw [JEntry.isSent, JEntry.seq?, hawaiting] at hsent
      cases hsent
    have hpoint : ¬ i < a.journal.sendPoint := Nat.not_lt.2 (Nat.le_trans h.sendPoint hunsent)
    rw [if_neg hpoint]
    refine .of_sentFirst (h.sentFirst.erased hunsent hlt _) h.sendPoint h.unassigned h.window fun hnone => ?_
    show a.journal.entries.eraseIdx i = []
    rw [h.empty hnone]
    rfl
  · exact h

/-- The next entry to send handed over (R17, R18). -/
theorem SendOrdered.sent (h : SendOrdered a) {k : JTake} (hk : a.journal.take a.window = some k) :
    SendOrdered { a with journal := k.journal } := by
  obtain ⟨e, he, ⟨q, hq, rfl⟩ | ⟨hready, hwindow, rfl⟩⟩ := take_cases hk
  · have hsent := (h.sentFirst.sent_iff he).1 (by rw [JEntry.isSent, seq?_eq_some.2 hq]; rfl)
    exact .of_sentFirst (h.sentFirst.same rfl rfl) hsent h.unassigned h.window h.empty
  · have hunsent := mt (h.sentFirst.sent_iff he).2 (by rw [JEntry.isSent, JEntry.seq?, hready]; nofun)
    have hpoint : a.journal.sendPoint = a.journal.sentCount := Nat.le_antisymm h.sendPoint (Nat.not_lt.1 hunsent)
    rw [hpoint] at he ⊢
    refine .of_sentFirst (h.sentFirst.sent he) (Nat.le_refl _) nofun hwindow fun hnone => ?_
    rw [h.empty hnone] at he
    cases he

/-- A rewind to a SENT entry (R19, R20). -/
theorem SendOrdered.rewound (h : SendOrdered a) {i : Nat} {e : JEntry} (he : a.journal.entries[i]? = some e)
    (hsent : e.isSent = true) : SendOrdered { a with journal := { a.journal with sendPoint := i } } :=
  .of_sentFirst (h.sentFirst.same rfl rfl) (Nat.le_of_lt ((h.sentFirst.sent_iff he).1 hsent)) h.unassigned h.window h.empty

/-- The oldest SENT entries removed (R21). -/
theorem SendOrdered.removed (h : SendOrdered a) {d : Nat} (hd : d ≤ a.journal.sentCount) :
    SendOrdered { a with journal := a.journal.removeOldest d } := by
  refine .of_sentFirst (h.sentFirst.removed hd) (Nat.sub_le_sub_right h.sendPoint d) (fun hnone => ?_)
    (Nat.le_trans (Nat.sub_le _ _) h.window) fun hnone => ?_
  · rw [h.unassigned hnone, Nat.zero_sub]
  · show a.journal.entries.drop d = []
    rw [h.empty hnone]
    exact List.drop_nil

end

/-! ### The events -/

/-- Confirmation changes no sequence (R13). -/
theorem confirm_seq (id : Nat) (j : Journal) : (j.confirm id).entries.map JEntry.seq? = j.entries.map JEntry.seq? := by
  simp only [Journal.confirm, List.map_map]
  refine List.map_congr_left fun e _ => ?_
  dsimp only [Function.comp]
  split
  · cases hstate : e.state <;> simp [JEntry.seq?, hstate]
  · rfl

/-- The sweep runs with a session up (R37, R47). -/
theorem hasJournal_of_sweepRuns {m : Mirror} (h : m.sweepRuns = true) : hasJournal m.state = true := by
  rcases sweepRuns_state h with hs | hs <;> rw [hs] <;> rfl

/-- STREAMING and CATCHUP have a session up (R28). -/
theorem hasJournal_of_capturing {x : MirrorState} (h : x = .streaming ∨ x = .catchup) : hasJournal x = true := by
  rcases h with rfl | rfl <;> rfl

/-- A mark leaves a session up or down (R29). -/
theorem hasJournal_marked (x : MirrorState) : hasJournal (if x = .streaming then .catchup else x) = hasJournal x := by
  cases x <;> rfl

/-- The sweep's moves leave the mirror state (R37, R40). -/
theorem pick_state (m : Mirror) : m.pick.state = m.state := by
  unfold Mirror.pick
  split
  · rfl
  · split <;> rfl

/-- Every event of the mirroring side keeps the send order, in a map in order and with the capture links at their entries. -/
theorem MirrorEvent.sendOrdered {a b : MirrorSide} (h : MirrorEvent a b) (hmap : MapInOrder a.mirror a.journal.reservation)
    (hlinks : LinksKept a.journal a.table) (ha : SendOrdered a) : SendOrdered b := by
  cases h with
  | viewed table held => exact ha.sameSequences rfl rfl rfl rfl rfl
  | taken t e => exact ha.sameSequences rfl rfl rfl rfl rfl
  | settled t e e' => exact ha.sameSequences rfl rfl rfl rfl rfl
  | captured t e e' b held ht hpledge hcapture hstate =>
    exact (ha.sameSequences (b := { a with
      table := a.table.set t (.used e'), held := held, journal := pledgeGiven e a.journal }) rfl rfl rfl rfl rfl).appended
      (hasJournal_of_capturing hstate) b nofun
  | confirmed t e id => exact ha.sameSequences (confirm_seq id a.journal) rfl rfl rfl rfl
  | voided t e id ht hcapture => exact (ha.voided hlinks ht hcapture).sameSequences rfl rfl rfl rfl rfl
  | touched | counted | nextChunk => exact ha.mirrorChanged id
  | marked p =>
    exact ha.mirrorChanged fun hnone => by rwa [Mirror.mark_state, hasJournal_marked] at hnone
  | caughtUp => exact ha.mirrorChanged fun hnone => (hasJournal_marked _).symm.trans hnone
  | picked => exact ha.mirrorChanged fun hnone => by rwa [pick_state] at hnone
  | issued | lineAnswered | chunkDropped => exact ha.sameSequences rfl rfl rfl rfl rfl
  | chunkFaulted rv =>
    refine (ha.sameSequences (b := { a with journal := { a.journal with reservation := none } }) rfl rfl rfl rfl rfl).mirrorChanged fun hnone => ?_
    rwa [(cursorPast_stands ..).1] at hnone
  | chunkAppended rv bytes hrv hstands =>
    exact (ha.sameSequences (b := { a with journal := { a.journal with reservation := none } }) rfl rfl rfl rfl rfl).appended
      (hmap.reservation rv hrv hstands).1 _ nofun
  | recopied | pageCopied =>
    exact ha.mirrorChanged fun hnone => by rwa [(cursorPast_stands ..).1] at hnone
  | doneAppended hruns =>
    have hup := hasJournal_of_sweepRuns hruns
    refine (ha.appended hup _ (st := .ready) nofun).mirrorChanged fun hnone => ?_
    rcases sweepRuns_state hruns with hs | hs <;> simp [hs, hasJournal] at hnone
  | sent k hk => exact ha.sent hk
  | rewound i hi =>
    obtain ⟨e, he, hsent⟩ := hi
    exact ha.rewound he hsent
  | removed d hd => exact ha.removed hd
  | startedFull _ hoff =>
    obtain ⟨hentries, hpoint⟩ := ha.idle (by rw [hoff]; rfl)
    exact .of_empty hentries hpoint
  | startedClean hoff =>
    obtain ⟨hentries, hpoint⟩ := ha.idle (by rw [hoff]; rfl)
    exact .of_empty hentries hpoint
  | relinked hs =>
    obtain ⟨hentries, hpoint⟩ := ha.idle (by rw [hs]; rfl)
    exact .of_empty hentries hpoint
  | accepted hs => exact ha.mirrorChanged fun _ => by rw [hs]; rfl
  | attemptLost hs => exact ha.mirrorChanged fun _ => by rw [hs]; rfl
  | converted | stopped => exact .of_empty rfl rfl
  | drainBegun => exact ha.mirrorChanged nofun
  | windowWritten w hoff =>
    obtain ⟨hentries, hpoint⟩ := ha.idle (by rw [hoff]; rfl)
    exact .of_empty hentries hpoint
  | reset => exact .of_empty rfl rfl

/-- Settles O60: the map in order, the capture links and the send order are kept together by the events of a step. -/
theorem stepsKeepTheSendOrder : Obligations.StepsKeepTheSendOrder := by
  intro s t hcoordinated hmap hlinks hs hstep
  rw [mapOk_iff] at hmap
  rw [capturesOk_iff] at hlinks
  rw [sendOrderOk_iff] at hs ⊢
  rcases step_steps hstep with hsteps | ⟨-, u, -, hside⟩
  · have hkept := hsteps.run.keeps
      (P := fun a => MapInOrder a.mirror a.journal.reservation ∧ LinksKept a.journal a.table ∧ SendOrdered a)
      (fun _ _ h ⟨hm, hl, ho⟩ => ⟨h.mapInOrder hm, h.linksKept hl, h.sendOrdered hm hl ho⟩)
      ((coordinated_iff s).1 hcoordinated) ⟨hmap, hlinks, hs⟩
    exact hkept.2.2
  · rw [hside]
    exact hs.sameSequences rfl rfl rfl rfl rfl

end Sys2Proof.Proofs
end

section
/-! PROOFS. The capture decision of a write at its forward event, by class and mirror state (R10, R30 to R32, R73, R74, R96). -/
namespace Sys2Proof.Proofs

open Sys2Proof.Machine Sys2Proof.Safety

/-! ### The forward event -/

/-- The forward event of a write with a capture decision: the tracking entry, the request on the channel, and what the decision
left of the other blocks (R96). -/
theorem exec_captured {s : State} {t : Fin 64} {ts : List (Fin 64)} {e : TrackEntry} {c : Captured}
    (hg : GrantsWrite s t ts e) (hc : captureWrite t e (s.withJournal (pledgeGiven e s.journal)) = c) :
    exec .memorySideGrant s = .next (c.state.withPath (grantedWrite t ts e c.capture c.rule s.path)) := by
  obtain ⟨hp, hqueue, htable, hkind, hturn⟩ := hg
  have hpath : c.state.path = s.path := by rw [← hc, captureWrite_path]; rfl
  have hlive : exec .memorySideGrant s = .next (arbitrate s) := by
    simp [exec, execMemorySideGrant, live_running hp]
  rw [hlive, arbitrate_host hqueue hturn, grantHost_granted htable ts hkind, hc, granted, hpath]
  simp only [Path.grantHost, grantedWrite, hostMemRequest, hkind]

/-- Without a pledge there is none to give up (R6). -/
theorem pledgeGiven_none {e : TrackEntry} (h : e.pledge = false) (j : Journal) : pledgeGiven e j = j := by
  rw [pledgeGiven, h]
  rfl

/-- The pledges after a write's pledge is given up, if it has one (R6, R58). -/
theorem pledgeGiven_eq (e : TrackEntry) (j : Journal) :
    pledgeGiven e j = { j with pledges := j.pledges - (if e.pledge then 1 else 0) } := by
  cases he : e.pledge <;> simp [pledgeGiven, he]

/-- The forward event of a write without a pledge. -/
theorem exec_captured_unpledged {s : State} {t : Fin 64} {ts : List (Fin 64)} {e : TrackEntry} {c : Captured}
    (hg : GrantsWrite s t ts e) (hpledge : e.pledge = false) (hc : captureWrite t e s = c) :
    exec .memorySideGrant s = .next (c.state.withPath (grantedWrite t ts e c.capture c.rule s.path)) :=
  exec_captured hg (by rw [pledgeGiven_none hpledge]; exact hc)

/-! ### The capture decision by mirror state -/

section
variable {t : Fin 64} {e : TrackEntry} {i : Fin 32} {p : Policy} {s : State}

/-- A write of a mirror region taken in the primary role is decided by the mirror state (R30, R31). -/
theorem captureWrite_mirror (hr : e.role = .primary) (hc : e.cls = some (.mirror i p)) (s : State) :
    captureWrite t e s = captureMirror t e i p s := by
  simp only [captureWrite, hr, hc]

/-- A write of a signal region taken in the primary role is decided by its form and the mirror state (R32). -/
theorem captureWrite_signal (hr : e.role = .primary) (hc : e.cls = some (.signal i)) (s : State) :
    captureWrite t e s = captureSignal t e i s := by
  simp only [captureWrite, hr, hc]

/-- A write of class PASS, or one taken in the replica role, records nothing (R73, R74). -/
theorem captureWrite_plain (h : e.role = .replica ∨ e.cls = some .pass) (s : State) :
    captureWrite t e s = { state := s, capture := none, rule := .asMemory } := by
  rcases h with hr | hc
  · simp only [captureWrite, hr]
  · cases hr : e.role <;> simp only [captureWrite, hr, hc]

/-- In STREAMING and CATCHUP a mirror write is an entry, or marks its page (R30, R31). -/
theorem captureMirror_capturing (h : s.mirror.state = .streaming ∨ s.mirror.state = .catchup) :
    captureMirror t e i p s = captureStreaming t e i p s := by
  rcases h with h | h <;> simp only [captureMirror, h]

/-- In LINKING and TRACKING a mirror write marks its page (R30, R31). -/
theorem captureMirror_unlinked (h : s.mirror.state = .linking ∨ s.mirror.state = .tracking) :
    captureMirror t e i p s = markInstead e p s := by
  rcases h with h | h <;> simp only [captureMirror, h]

/-- In OFF a mirror write records nothing (R30, R31). -/
theorem captureMirror_off (h : s.mirror.state = .off) :
    captureMirror t e i p s = { state := s, capture := none, rule := .asMemory } := by
  simp only [captureMirror, h]

/-- In DRAINING a mirror write is counted (R30, R31, R49). -/
theorem captureMirror_draining (h : s.mirror.state = .draining) :
    captureMirror t e i p s = { state := countUncaptured s, capture := none, rule := .asMemory } := by
  simp only [captureMirror, h]

/-- A mark makes STREAMING CATCHUP, and CATCHUP stays (R29). -/
theorem mark_catchup (p : Nat) {m : Mirror} (h : m.state = .streaming ∨ m.state = .catchup) :
    (m.mark p).state = .catchup := by
  rw [Mirror.mark_state]
  rcases h with h | h <;> simp [h]

end

/-- Settles O9: the room decides in STREAMING and CATCHUP, and the mirror state alone elsewhere. -/
theorem asyncWriteIsCaptured : Obligations.AsyncWriteIsCaptured := by
  intro s t ts e i hg hpledge hr hcls
  have hexec {c : Captured} (hc : captureMirror t e i .async s = c) :
      exec .memorySideGrant s = .next (c.state.withPath (grantedWrite t ts e c.capture c.rule s.path)) :=
    exec_captured_unpledged hg hpledge (by rw [captureWrite_mirror hr hcls, hc])
  refine ⟨fun hs => ⟨fun hroom => ?_, fun hroom => ⟨?_, mark_catchup _ hs⟩⟩, fun hs => ⟨?_, ?_⟩, fun hs => ?_,
    fun hs => ?_⟩
  · have hdata : captureStreaming t e i .async s =
        { state := appendData t e i false s, capture := some s.journal.nextId, rule := .asMemory } :=
      if_pos ((roomForData_iff _).2 hroom)
    exact hexec ((captureMirror_capturing hs).trans hdata)
  · have hmark : captureStreaming t e i .async s = markInstead e .async s := if_neg (mt (roomForData_iff _).1 hroom)
    exact hexec ((captureMirror_capturing hs).trans hmark)
  · exact hexec (captureMirror_unlinked hs)
  · rw [Mirror.mark_state]
    rcases hs with hs | hs <;> simp [hs]
  · exact hexec (captureMirror_off hs)
  · exact hexec (captureMirror_draining hs)

/-- The completion rule of a synchronous write that is not held (R31, R96). -/
theorem unheldRule_sync {p : Policy} {q : SyncPolicy} (h : syncPolicy p = some q) :
    unheldRule p = if q = .closed then .closed else .asMemory := by
  cases p <;> cases h <;> rfl

/-- A synchronous write in STREAMING or CATCHUP is held with a pledge, or with room and a held place (R31). -/
theorem captureStreaming_sync {t : Fin 64} {e : TrackEntry} {i : Fin 32} {p : Policy} {q : SyncPolicy} (s : State)
    (h : syncPolicy p = some q) : captureStreaming t e i p s =
      if e.pledge || (s.journal.roomForData && heldPlaceFree s) then
        { state := joinHeld t e s.journal.nextId q (appendData t e i true s), capture := some s.journal.nextId,
          rule := .held }
      else markInstead e p s := by
  simp only [captureStreaming, h]

/-- Whether a synchronous write finds its place, before its pledge is given up (R31, R58). -/
theorem heldPlace_iff (e : TrackEntry) (s : State) :
    (e.pledge || ((s.withJournal (pledgeGiven e s.journal)).journal.roomForData
        && heldPlaceFree (s.withJournal (pledgeGiven e s.journal)))) = true
      ↔ e.pledge = true ∨ (1 ≤ s.journal.freeEntries ∧ 1 ≤ s.journal.freeSlots ∧ s.held.length + s.journal.pledges < 32) := by
  cases he : e.pledge with
  | true => simp
  | false =>
    rw [pledgeGiven_none he, Bool.false_or, Bool.and_eq_true]
    refine (and_congr (roomForData_iff _) (decide_eq_true_iff (p := s.held.length + s.journal.pledges < 32))).trans ?_
    simp [and_assoc]

/-- Settles O10: a pledge or a free place holds the write, and otherwise the mirror state and the policy decide. -/
theorem synchronousWriteIsHeldOrMarked : Obligations.SynchronousWriteIsHeldOrMarked := by
  refine ⟨fun s t ts e i p q hg hr hcls hq => ?_, fun s t ts e hg hpledge hplain =>
    exec_captured_unpledged hg hpledge (captureWrite_plain hplain s)⟩
  dsimp only
  rw [← pledgeGiven_eq, ← unheldRule_sync hq]
  have hexec {c : Captured} (hc : captureMirror t e i p (s.withJournal (pledgeGiven e s.journal)) = c) :
      exec .memorySideGrant s = .next (c.state.withPath (grantedWrite t ts e c.capture c.rule s.path)) :=
    exec_captured hg (by rw [captureWrite_mirror hr hcls, hc])
  have hstreaming (hs : s.mirror.state = .streaming ∨ s.mirror.state = .catchup) :=
    (captureMirror_capturing (t := t) (e := e) (i := i) (p := p) (s := s.withJournal (pledgeGiven e s.journal)) hs).trans
      (captureStreaming_sync _ hq)
  refine ⟨fun hs => ⟨fun hplace => ?_, fun hplace => ⟨?_, mark_catchup _ hs⟩⟩, fun hs => ?_, fun hs => ?_, fun hs => ?_⟩
  · exact hexec ((hstreaming hs).trans (if_pos ((heldPlace_iff e s).2 hplace)))
  · have hpledge : e.pledge = false := Bool.eq_false_iff.2 fun he => hplace (.inl he)
    have hmarked := hexec ((hstreaming hs).trans (if_neg (mt (heldPlace_iff e s).1 hplace)))
    rwa [pledgeGiven_none hpledge] at hmarked
  · exact hexec (captureMirror_unlinked hs)
  · exact hexec (captureMirror_off hs)
  · exact hexec (captureMirror_draining hs)

/-! ### Signal writes -/

/-- A signal write is well formed when its set is one aligned group of four bytes (R10, R32). -/
theorem oneAlignedGroup_iff (be : ByteSet) : oneAlignedGroup be = true ↔ ∃ k : Fin 16, be = 0xF#64 <<< (4 * k.val) := by
  simp only [oneAlignedGroup, List.any_eq_true, List.mem_range, beq_iff_eq]
  exact ⟨fun ⟨k, hk, h⟩ => ⟨⟨k, hk⟩, h⟩, fun ⟨k, h⟩ => ⟨k.val, k.isLt, h⟩⟩

/-- A signal write of another form is reported (R32). -/
theorem captureSignal_malformed {e : TrackEntry} (hform : oneAlignedGroup e.req.be ≠ true) (t : Fin 64) (i : Fin 32)
    (s : State) : captureSignal t e i s =
      { state := report .signalMalformed (some e.req.source) e.req.addr (some i) s, capture := none, rule := .asMemory } :=
  if_neg hform

/-- A well-formed signal write is decided by the mirror state (R10, R32). -/
theorem captureSignal_formed {e : TrackEntry} (hform : oneAlignedGroup e.req.be = true) (t : Fin 64) (i : Fin 32)
    (s : State) : captureSignal t e i s =
      match s.mirror.state with
      | .off => { state := s, capture := none, rule := .asMemory }
      | .linking => { state := bump .markersDropped s, capture := none, rule := .asMemory }
      | .tracking => { state := bump .markersDropped s, capture := none, rule := .asMemory }
      | .streaming => captureMark t e i s
      | .catchup => captureMark t e i s
      | .draining => { state := countUncaptured s, capture := none, rule := .asMemory } :=
  if_pos hform

/-- Settles O11: the form decides first, then the mirror state, and in STREAMING and CATCHUP the entry places. -/
theorem signalWriteIsCaptured : Obligations.SignalWriteIsCaptured := by
  intro s t ts e i hg hpledge hr hcls
  have hexec {c : Captured} (hc : captureSignal t e i s = c) :
      exec .memorySideGrant s = .next (c.state.withPath (grantedWrite t ts e c.capture c.rule s.path)) :=
    exec_captured_unpledged hg hpledge (by rw [captureWrite_signal hr hcls, hc])
  have hmark (hs : s.mirror.state = .streaming ∨ s.mirror.state = .catchup)
      (hform : oneAlignedGroup e.req.be = true) : captureSignal t e i s = captureMark t e i s := by
    rw [captureSignal_formed hform]
    rcases hs with hs | hs <;> simp only [hs]
  refine ⟨fun hform => ?_, fun hform => ?_⟩
  · rw [hexec (captureSignal_malformed (mt (oneAlignedGroup_iff _).1 fun ⟨k, hk⟩ => hform k hk) t i s)]
    exact congrArg _ (report_withPath _ _ _ _ s _).symm
  · have hform := (oneAlignedGroup_iff _).2 hform
    have hdropped (hs : captureSignal t e i s = { state := bump .markersDropped s, capture := none, rule := .asMemory }) :
        exec .memorySideGrant s = .next (countedUp .markersDropped
          { s with path := grantedWrite t ts e none .asMemory s.path }) := hexec hs
    refine ⟨fun ⟨hs, hroom⟩ => ?_, fun h => hdropped ?_, fun hs => ?_, fun hs => ?_⟩
    · exact hexec ((hmark hs hform).trans (if_pos (decide_eq_true hroom)))
    · rcases h with ⟨hs, hfull⟩ | hs | hs
      · exact (hmark hs hform).trans (if_neg (by simpa [Journal.roomForEntry] using hfull))
      · rw [captureSignal_formed hform]
        simp only [hs]
      · rw [captureSignal_formed hform]
        simp only [hs]
    · refine hexec (c := { state := s, capture := none, rule := .asMemory }) ?_
      rw [captureSignal_formed hform]
      simp only [hs]
    · refine hexec (c := { state := countUncaptured s, capture := none, rule := .asMemory }) ?_
      rw [captureSignal_formed hform]
      simp only [hs]

end Sys2Proof.Proofs
end

section
/-! PROOFS. The answers to captured writes and to chunk reads: what confirming and voiding do to a journal, and how a chunk read ends
(R8, R11, R13, R14, R39 to R41, R101). -/
namespace Sys2Proof.Proofs

open Sys2Proof.Machine Sys2Proof.Safety

/-! ### Confirming and voiding -/

/-- Of entries numbered each once, one alone has the number of a given one. -/
theorem id_ne_of_split {x : JEntry} {front back : List JEntry}
    (hunique : ((front ++ x :: back).map JEntry.id).Nodup) :
    (∀ e ∈ front, e.id ≠ x.id) ∧ ∀ e ∈ back, e.id ≠ x.id := by
  rw [List.map_append, List.map_cons, List.nodup_append, List.nodup_cons] at hunique
  obtain ⟨-, ⟨hback, -⟩, hfront⟩ := hunique
  exact ⟨fun e he => hfront _ (List.mem_map_of_mem he) _ List.mem_cons_self,
    fun e he heq => hback (heq ▸ List.mem_map_of_mem he)⟩

/-- A change that touches one entry alone. -/
theorem map_one {f : JEntry → JEntry} {x : JEntry} {front back : List JEntry} (hfront : ∀ e ∈ front, f e = e)
    (hback : ∀ e ∈ back, f e = e) : (front ++ x :: back).map f = front ++ f x :: back := by
  rw [List.map_append, List.map_cons, (List.map_congr_left hfront).trans (List.map_id' front),
    (List.map_congr_left hback).trans (List.map_id' back)]

/-- Settles O13: the numbers tell the entry from all others, and the send point stands at or before it. -/
theorem confirmAndVoidTouchOneEntry : Obligations.ConfirmAndVoidTouchOneEntry := by
  intro j x front back t hunique hentries hx hpoint
  rw [hentries] at hunique
  obtain ⟨hfront, hback⟩ := id_ne_of_split hunique
  constructor
  · rw [Journal.confirm, hentries, map_one (fun e he => if_neg (hfront e he)) fun e he => if_neg (hback e he)]
    simp only [hx, if_true]
  · have hfind : j.entries.findIdx? (fun e => e.id == x.id) = some front.length := by
      have hskip : front.findIdx? (fun e => e.id == x.id) = none := by
        simpa [List.findIdx?_eq_none_iff] using hfront
      rw [hentries, List.findIdx?_append, hskip, List.findIdx?_cons]
      simp
    have herase : j.entries.eraseIdx front.length = front ++ back := by
      rw [hentries, List.eraseIdx_append_of_length_le (Nat.le_refl _), Nat.sub_self, List.eraseIdx_cons_zero]
    simp only [Journal.void, hfind, herase, if_neg (Nat.not_lt.2 hpoint)]

/-! ### Chunk reads -/

/-- The cursor past a page, and past the last page to 0 with the pass count one higher (R40). -/
theorem cursorPast_eq (p : Nat) (m : Mirror) : m.cursorPast p =
    { m with cursor := cursorAfter p, passCount := passesAfter p m.passCount } := by
  by_cases h : p + 1 = 268435456
  · rw [cursorAfter, passesAfter, if_pos h, if_pos h]
    exact if_pos h
  · rw [cursorAfter, passesAfter, if_neg h, if_neg h]
    exact if_neg h

/-- A reservation with one more of its line reads answered (R8). -/
def lineAdded (k : Fin 4) (st : MemStatus) (data : List Byte) (rv : Reservation) : Reservation :=
  { rv with answers := rv.answers ++ [{ line := k, status := st, data := data }] }

/-- The answer to a line read of a chunk goes to the reservation (R97, R101). -/
theorem exec_lineAnswered {s : State} {tag : Fin 64} {u : Fin 8} {r : OwnRequest} {k : Fin 4} (h : OwnInMemory s tag u r)
    (hr : r.use = .sweep k) (st : MemStatus) (data : List Byte) : exec (.memoryResponse 255 tag st data) s =
      .next (sweepAnswered k st data (s.withPath (s.path.freeOwn u))) := by
  rw [exec_memoryResponse_own, matchOwn_granted h]
  simp only [ownAnswered, hr]

section
variable {s : State} {rv : Reservation}

/-- The first three answers are kept (R8). -/
theorem sweepAnswered_kept (k : Fin 4) (st : MemStatus) (data : List Byte) (hrv : s.journal.reservation = some rv)
    (h : rv.answers.length < 3) : sweepAnswered k st data s =
      s.withJournal { s.journal with reservation := some (lineAdded k st data rv) } := by
  simp only [sweepAnswered, hrv]
  exact if_pos (by simpa using Nat.succ_lt_succ h)

/-- The fourth answer ends the chunk read (R8, R39, R41). -/
theorem sweepAnswered_ends (k : Fin 4) (st : MemStatus) (data : List Byte) (hrv : s.journal.reservation = some rv)
    (h : rv.answers.length = 3) : sweepAnswered k st data s =
      endChunk (lineAdded k st data rv) s := by
  simp only [sweepAnswered, hrv]
  exact if_neg (by simp [h])

/-- A cancelled chunk read returns its room (R8). -/
theorem endChunk_cancelled (h : rv.cancelled = true) (s : State) : endChunk rv s = dropReservation s :=
  if_pos h

/-- A standing chunk read whose answers are OKAY is complete (R39). -/
theorem endChunk_okay (h : rv.cancelled = false) (hall : ∀ a ∈ rv.answers, a.status = .okay) (s : State) :
    endChunk rv s = completeChunk rv s := by
  have hnone : firstErrorLine rv.answers = none := by
    simp only [firstErrorLine, Option.map_eq_none_iff, List.find?_eq_none]
    intro a ha
    rw [hall a ha]
    decide
  simp only [endChunk, h, hnone]
  rfl

/-- A standing chunk read with an answer that is ERROR faults at the first of them (R41). -/
theorem endChunk_faulted {front back : List LineAnswer} {a : LineAnswer} (h : rv.cancelled = false)
    (hall : rv.answers = front ++ a :: back) (hfront : ∀ x ∈ front, x.status = .okay) (ha : a.status = .error)
    (s : State) : endChunk rv s =
      chunkFault rv (chunkLineAddr rv.page rv.chunk.val a.line.val) (dropReservation s) := by
  have hfirst : firstErrorLine rv.answers = some a.line := by
    have hskip : front.find? (fun x => x.status == .error) = none := by
      rw [List.find?_eq_none]
      intro x hx
      rw [hfront x hx]
      decide
    rw [firstErrorLine, hall, List.find?_append, hskip, List.find?_cons, ha]
    rfl
  simp only [endChunk, h, hfirst]
  rfl

/-- A chunk that is not the last: the PAGE entry, and the page goes on to its next chunk (R11, R39). -/
theorem completeChunk_next {c : Copying} (hc : s.mirror.copying = some c) (h : rv.chunk ≠ 15) : completeChunk rv s =
    { s with
      journal := appended (.page rv.page rv.chunk rv.region (chunkBytes rv.answers)) .ready
        { s.journal with reservation := none },
      mirror := { s.mirror with copying := some { c with next := c.next + 1 } } } := by
  simp only [completeChunk, State.withJournal, hc, if_neg h]
  rfl

/-- The last chunk: the PAGE entry, and the page's copy ends (R11, R40). -/
theorem completeChunk_last {c : Copying} (hc : s.mirror.copying = some c) (h : rv.chunk = 15) : completeChunk rv s =
    endCopy c { s with
      journal := appended (.page rv.page rv.chunk rv.region (chunkBytes rv.answers)) .ready
        { s.journal with reservation := none } } := by
  simp only [completeChunk, State.withJournal, hc, if_pos h]
  rfl

end

/-- The copy of a page ends: it returns to DIRTY by its recopy flag, or leaves the map and is counted (R40). -/
theorem endCopy_eq (c : Copying) (s : State) : endCopy c s =
    if c.recopy then
      { s with mirror := { s.mirror with
          copying := none, cursor := cursorAfter c.page, passCount := passesAfter c.page s.mirror.passCount } }
    else countedUp .pagesCopied { s with mirror := { s.mirror with
      copying := none, cursor := cursorAfter c.page, passCount := passesAfter c.page s.mirror.passCount,
      marks := s.mirror.marks.filter (fun p => p ≠ c.page), copied := min 4294967295 (s.mirror.copied + 1) } } := by
  simp only [endCopy, cursorPast_eq]
  rfl

/-- A chunk fault: the page's mark gone, the page skipped, the fault reported (R41). -/
theorem chunkFault_eq (rv : Reservation) (a : LineAddr) (s : State) : chunkFault rv a s =
    report .sweepReadFault none a (some rv.region) (countedUp .pagesSkipped { s with mirror := { s.mirror with
      copying := none, cursor := cursorAfter rv.page, passCount := passesAfter rv.page s.mirror.passCount,
      marks := s.mirror.marks.filter (fun p => p ≠ rv.page), skipped := min 4294967295 (s.mirror.skipped + 1) } }) := by
  simp only [chunkFault, cursorPast_eq]
  rfl

/-- Settles O14: three answers are kept, and the fourth ends the chunk read as it was cancelled, answered or faulted. -/
theorem chunkReadIsAnswered : Obligations.ChunkReadIsAnswered := by
  intro s tag u r k st data rv hown hr hrv
  dsimp only
  rw [exec_lineAnswered hown hr]
  have hrv' : (s.withPath (s.path.freeOwn u)).journal.reservation = some rv := hrv
  have hcopying {c : Copying} (hc : s.mirror.copying = some c) :
      (s.withPath (s.path.freeOwn u)).mirror.copying = some c := hc
  refine ⟨fun hfirst => ?_, fun hlast => ⟨fun hcancelled => ?_, fun c hstands hokay hc => ⟨fun hnext => ?_, fun hend => ?_⟩,
    fun front back a hstands hall hfront ha => ?_⟩⟩
  · rw [sweepAnswered_kept k st data hrv' hfirst]
    rfl
  · rw [sweepAnswered_ends k st data hrv' hlast, endChunk_cancelled (rv := lineAdded k st data rv) hcancelled]
    rfl
  · rw [sweepAnswered_ends k st data hrv' hlast, endChunk_okay (rv := lineAdded k st data rv) hstands hokay,
      completeChunk_next (rv := lineAdded k st data rv) (hcopying hc) hnext]
    rfl
  · rw [sweepAnswered_ends k st data hrv' hlast, endChunk_okay (rv := lineAdded k st data rv) hstands hokay,
      completeChunk_last (rv := lineAdded k st data rv) (hcopying hc) hend, endCopy_eq]
    rfl
  · rw [sweepAnswered_ends k st data hrv' hlast, endChunk_faulted (rv := lineAdded k st data rv) hstands hall hfront ha,
      chunkFault_eq]
    rfl

end Sys2Proof.Proofs
end

section
/-! PROOFS. Board reset, the sweep's own steps and the normal end of a drain (R7, R8, R12, R25, R37, R38, R42, R51, R94, R103). -/
namespace Sys2Proof.Proofs

open Sys2Proof.Machine Sys2Proof.Safety

/-! ### Board reset -/

/-- Settles O5: the blocks take their reset values by the command's definition, and each tracking entry and internal tag its own
fate. -/
theorem boardResetClearsAndKeeps : Obligations.BoardResetClearsAndKeeps := by
  intro s hp
  refine ⟨_, congrArg Host.Outcome.next (if_pos hp), rfl, fun i e he => ?_, fun i hfree => ?_, fun i src k hstale => ?_,
    fun u => ?_⟩
  all_goals simp only [Path.boardReset, Fin.getElem_fin, Vector.getElem_map] at *
  · rw [he]
    cases hstate : e.state <;> simp [staleSlot, hstate]
  · rw [hfree]
    rfl
  · rw [hstale]
    rfl
  · cases s.path.own[u.val] <;> rfl

/-! ### The sweep's pick -/

/-- In ascending order the first page with a property is the lowest with it. -/
theorem find?_lowest {l : List Nat} {f : Nat → Bool} {p : Nat} (horder : l.Pairwise (· < ·)) (hp : p ∈ l)
    (hf : f p = true) (hlowest : ∀ q ∈ l, f q = true → p ≤ q) : l.find? f = some p := by
  obtain ⟨front, back, rfl⟩ := List.append_of_mem hp
  have hbefore : ∀ q ∈ front, q < p := fun q hq => (List.pairwise_append.1 horder).2.2 q hq p List.mem_cons_self
  have hskip : front.find? f = none := List.find?_eq_none.2 fun q hq hfq =>
    absurd (hlowest q (List.mem_append_left _ hq) hfq) (Nat.not_le.2 (hbefore q hq))
  rw [List.find?_append, hskip, List.find?_cons, hf]
  rfl

/-- The sweep's pick with the sweep running and no page COPYING (R37). -/
theorem exec_sweepPick {s : State} (hp : s.phase = .running) (hruns : s.mirror.sweepRuns = true)
    (hnone : s.mirror.copying = none) : exec .sweepPick s = .next (s.withMirror s.mirror.pick) := by
  simp [exec, execSweepPick, live_running hp, hruns, hnone]

/-- Settles O17: in ascending order the first page at or after the cursor is the lowest such, and else the lowest of all heads
the map. -/
theorem sweepPicksTheNextPage : Obligations.SweepPicksTheNextPage := by
  intro s p hp hruns hnone horder hmem
  rw [exec_sweepPick hp hruns hnone]
  refine ⟨fun hcursor hlowest => ?_, fun hbefore hlowest => ?_⟩
  · have hfind : s.mirror.marks.find? (fun q => decide (s.mirror.cursor ≤ q)) = some p :=
      find?_lowest horder hmem (decide_eq_true hcursor) fun q hq h => hlowest q hq (of_decide_eq_true h)
    simp only [Mirror.pick, hfind]
    rfl
  · have hfind : s.mirror.marks.find? (fun q => decide (s.mirror.cursor ≤ q)) = none :=
      List.find?_eq_none.2 fun q hq => by simpa using hbefore q hq
    obtain ⟨q, qs, hmarks⟩ := List.exists_cons_of_ne_nil (List.ne_nil_of_mem hmem)
    rw [hmarks] at horder hmem hlowest
    have hhead : q = p := by
      rcases List.mem_cons.1 hmem with heq | htail
      · exact heq.symm
      · exact absurd ((List.pairwise_cons.1 horder).1 p htail) (Nat.not_lt.2 (hlowest q List.mem_cons_self))
    simp only [Mirror.pick, hfind]
    rw [hmarks, hhead]
    rfl

/-! ### Chunk reads issued -/

/-- Requests handed to the internal source under tags of their own, one after another (R94). -/
theorem handOne_foldl (l : List (Fin 8 × OwnRequest)) (hunique : (l.map Prod.fst).Nodup) (p : Path) :
    (l.foldl Path.handOne p).ownQueue = p.ownQueue ++ l.map Prod.fst
      ∧ (∀ x ∈ l, (l.foldl Path.handOne p).own[x.1] = .waiting x.2)
      ∧ ∀ u : Fin 8, u ∉ l.map Prod.fst → (l.foldl Path.handOne p).own[u] = p.own[u] := by
  induction l generalizing p with
  | nil => exact ⟨by simp, nofun, fun _ _ => rfl⟩
  | cons x l ih =>
    rw [List.map_cons, List.nodup_cons] at hunique
    obtain ⟨hqueue, hwaiting, hothers⟩ := ih hunique.2 (p.handOne x)
    have hone : (p.handOne x).own[x.1] = .waiting x.2 := getElem_set_same _ _ _
    refine ⟨?_, fun y hy => ?_, fun u hu => ?_⟩
    · rw [List.foldl_cons, hqueue]
      simp [Path.handOne]
    · rcases List.mem_cons.1 hy with rfl | hy
      · exact (hothers _ hunique.1).trans hone
      · exact hwaiting y hy
    · rw [List.map_cons, List.mem_cons, not_or] at hu
      exact (hothers u hu.2).trans (getElem_set_other _ _ hu.1)

/-- The free internal tags, each once (R94). -/
theorem freeOwnTags_nodup (p : Path) : p.freeOwnTags.Nodup :=
  (List.nodup_finRange 8).filter _

/-- The tags under which requests are handed over, where there are enough of them: the lowest free ones (R94). -/
theorem handOver_tags {p : Path} {rs : List OwnRequest} (h : rs.length ≤ p.freeOwnTags.length) :
    (p.freeOwnTags.zip rs).map Prod.fst = p.freeOwnTags.take rs.length := by
  rw [List.zip_eq_zip_take_min, List.map_fst_zip (by simp), Nat.min_eq_right h]

/-- Settles O18: the conditions of the issue hold, and the zipped list of tags and requests tells what each tag gets. -/
theorem chunkReadIsIssued : Obligations.ChunkReadIsIssued := by
  refine ⟨fun s c i hp hruns hc hi hnone hentries hslots htags => ?_, fun p rs h => ?_⟩
  · have hroom : (s.journal.roomForChunk (param .catchupReserve s) && decide (4 ≤ s.path.freeOwnTags.length)) = true := by
      simp [Journal.roomForChunk, hnone, hentries, hslots, htags]
    have hexec : exec .chunkReadIssue s = .next (issueChunk c s) := by
      simp [exec, execChunkReadIssue, live_running hp, hc, hruns]
    rw [hexec]
    simp only [issueChunk, hi]
    exact congrArg _ (if_pos hroom)
  · have htags := handOver_tags h
    have hunique : ((p.freeOwnTags.zip rs).map Prod.fst).Nodup := by
      rw [htags]
      exact (freeOwnTags_nodup p).sublist (List.take_sublist ..)
    obtain ⟨hqueue, hwaiting, hothers⟩ := handOne_foldl _ hunique p
    rw [htags] at hqueue hothers
    refine ⟨hqueue, fun k r u hr hu => ?_, fun u hu => hothers u fun hmem => hu ?_⟩
    · have hzip : (p.freeOwnTags.zip rs)[k]? = some (u, r) := List.getElem?_zip_eq_some.2 ⟨hu, hr⟩
      exact hwaiting (u, r) (List.mem_of_getElem? hzip)
    · have hfree := (List.mem_filter.1 (List.mem_of_mem_take hmem)).2
      exact eq_of_beq hfree

/-! ### The end of the catch-up and of a drain -/

/-- Settles O19: the conditions of the step hold, and its effect is that of the statement. -/
theorem doneEntryEndsTheCatchUp : Obligations.DoneEntryEndsTheCatchUp := by
  intro s hp hruns hmarks hnone hroom
  have hready : (s.mirror.sweepRuns && s.mirror.marks.isEmpty && s.journal.reservation.isNone
      && s.journal.roomForEntry) = true := by
    simp [hruns, hmarks, hnone, Journal.roomForEntry, hroom]
  have hexec : exec .doneEntryAppend s = .next (appendDone s) := by
    simp only [exec, execDoneEntryAppend, live_running hp]
    exact congrArg _ (if_pos hready)
  rw [hexec]
  rfl

/-- Without a held write nothing is released by policy (R63). -/
theorem releasedPath_unheld {s : State} (h : s.held = []) : releasedPath s = s.path.dropCaptures := by
  rw [releasedPath, h]
  rfl

/-- Settles O20: with no entry, no reservation and no held write the drain's end is a STOP NOW with the deferred response. -/
theorem drainEndsNormally : Obligations.DrainEndsNormally := by
  intro s hp hdraining hactive hnone hentries hheld hup
  have hdone : drainDone s = true := by simp [drainDone, hdraining, hactive, hnone, hentries]
  have hexec : exec .drainNormalEnd s = .next (endDrainNormally s) := by
    simp [exec, execDrainNormalEnd, live_running hp, hdone]
  rw [hexec, endDrainNormally, endDrain_eq, stopPrimary_eq]
  refine ⟨_, rfl, ?_, releasedPath_unheld hheld, ?_, rfl, ?_, rfl, rfl⟩
  · simp only [drainEnded, stoppedNow, hheld]
  · simp only [drainEnded, stoppedNow, emptied, hnone, hentries]
    rfl
  · simp only [drainEnded, stoppedNow, hup, if_true]

end Sys2Proof.Proofs
end

section
/-! PROOFS. The answer to an attempt, and the frame that the mirror-link transmitter takes next (R3, R17, R18, R44, R116, R117, R119 to
R121). -/
namespace Sys2Proof.Proofs

open Sys2Proof.Machine Sys2Proof.Safety

/-! ### The answer to an attempt -/

/-- In HELLO_WAIT a primary takes a WELCOME and a BYE of its session (R111, R116, R117). -/
theorem stateVerdict_primary_helloWait {f : LinkFrame} {s : State} (hr : s.role = .primary)
    (hs : s.link.state = .helloWait) (h : f.session = s.link.session)
    (hf : (∃ r, f.body = .welcome r) ∨ ∃ r, f.body = .bye r) : stateVerdict f s = none := by
  rcases hf with ⟨r, hb⟩ | ⟨r, hb⟩ <;> simp [stateVerdict, hr, hs, h, hb]

/-- A WELCOME of the current attempt is acted on by its result (R116). -/
theorem exec_welcomeTaken {s : State} {session : Byte} {result : WelcomeResult} {bs : List Byte} (hp : s.phase = .running)
    (hr : s.role = .primary) (hs : s.link.state = .helloWait) (hsession : session = s.link.session)
    (hbs : parseLink bs = .ok { session := session, body := .welcome result }) :
    exec (.welcomeTaken session result) (handed .link (.frame bs) s) = .next (welcomed result s) := by
  have htaken := stateVerdict_primary_helloWait (f := { session := session, body := .welcome result }) hr hs hsession
    (.inl ⟨result, rfl⟩)
  have hlive : exec (.welcomeTaken session result) (handed .link (.frame bs) s) =
      .next (takeFrame { session := session, body := .welcome result } (welcomed result) (handed .link (.frame bs) s)) := by
    simp only [exec, execWelcomeTaken]
    exact live_running hp
  rw [hlive, takeFrame_taken _ hbs htaken]

/-- Settles O25: the frame is taken in HELLO_WAIT, and its result and the clean start decide. -/
theorem answerEndsTheAttempt : Obligations.AnswerEndsTheAttempt := by
  intro s session bs hp hr hs hsession
  refine ⟨fun hbs => ⟨fun hstart => ?_, fun hactive harmed => ?_⟩, fun hbs => ?_, fun hbs => ?_, fun reason hbs => ?_⟩
  · have haccepted : welcomed .accept s = sessionAccepted s := if_neg (by simpa using hstart)
    rw [exec_welcomeTaken hp hr hs hsession hbs, haccepted]
    rfl
  · have hvoid : welcomed .accept s = cleanVoid s := if_pos (by simp [hactive, harmed])
    rw [exec_welcomeTaken hp hr hs hsession hbs, hvoid, cleanVoid, attemptLost_eq, hsession]
    rfl
  · rw [exec_welcomeTaken hp hr hs hsession hbs, welcomed, attemptLost_eq]
  · rw [exec_welcomeTaken hp hr hs hsession hbs, welcomed, attemptLost_eq]
  · have htaken := stateVerdict_primary_helloWait (f := { session := session, body := .bye reason }) hr hs hsession
      (.inr ⟨reason, rfl⟩)
    rw [exec_byeTaken session reason _ hp hr, takeFrame_taken _ hbs htaken]
    simp only [peerLeft, hs, attemptLost_eq]

/-! ### The next frame -/

/-- A free transmitter that HOLD does not keep off takes the next frame (R119, R120). -/
theorem exec_linkFrameTransmitStart {s : State} (hp : s.phase = .running) (htx : s.linkLine.tx = none)
    (hhold : ¬(s.role = .primary ∧ s.holdIn = true)) : exec .linkFrameTransmitStart s = .next (sendNext s) := by
  have hready := (linkTxReady_iff s).2 ⟨htx, hhold⟩
  simp [exec, execLinkFrameTransmitStart, live_running hp, hready]

/-- Under HOLD a primary's transmitter begins nothing (R121). -/
theorem exec_linkFrameTransmitStart_held {s : State} (hp : s.phase = .running)
    (hhold : s.role = .primary ∧ s.holdIn = true) : exec .linkFrameTransmitStart s = .next s := by
  have hready : linkTxReady s = false := Bool.eq_false_iff.2 fun h => ((linkTxReady_iff s).1 h).2 hhold
  simp [exec, execLinkFrameTransmitStart, live_running hp, hready]

section
variable {s : State}

/-- The control queue's oldest frame goes first (R119). -/
theorem sendNext_control {f : LinkFrame} {rest : List LinkFrame} (h : s.link.control = f :: rest) : sendNext s =
    (s.withLink { s.link with control := rest }).withLinkLine { s.linkLine with tx := beginTx (.link f) } := by
  simp only [sendNext, h]

/-- With the queue empty nothing is sent outside UP (R120). -/
theorem sendNext_down (h : s.link.control = []) (hs : s.link.state ≠ .up) : sendNext s = s := by
  simp only [sendNext, h]
  exact if_neg hs

/-- With the queue empty and the session UP the journal hands over its next entry, if it has one to send (R17, R120). -/
theorem sendNext_up (h : s.link.control = []) (hs : s.link.state = .up) : sendNext s =
    match s.journal.take (param .window s) with
    | some k => sendEntry k s
    | none => s := by
  simp only [sendNext, h]
  exact if_pos hs

end

section
variable {j : Journal} {w : Nat} {e : JEntry}

/-- At the new end the journal hands over nothing (R17). -/
theorem take_end (h : j.entries.length ≤ j.sendPoint) : j.take w = none := by
  simp only [Journal.take, List.getElem?_eq_none h]

/-- A READY entry is handed over with the next sequence while the window has room (R17, R18). -/
theorem take_ready (he : j.entries[j.sendPoint]? = some e) (hs : e.state = .ready) (hw : j.sentCount < w) :
    j.take w = some ⟨e.body, j.nextSeq, false, { j with
      entries := j.entries.set j.sendPoint { e with state := .sent j.nextSeq }, sendPoint := j.sendPoint + 1,
      lastSeq := some j.nextSeq }⟩ := by
  simp only [Journal.take, he, hs, if_pos hw]

/-- At a full window a READY entry is not handed over (R17). -/
theorem take_full (he : j.entries[j.sendPoint]? = some e) (hs : e.state = .ready) (hw : w ≤ j.sentCount) :
    j.take w = none := by
  simp only [Journal.take, he, hs, if_neg (Nat.not_lt.2 hw)]

/-- A SENT entry is handed over again with its own sequence (R17). -/
theorem take_sent {q : SeqNum} (he : j.entries[j.sendPoint]? = some e) (hs : e.state = .sent q) :
    j.take w = some ⟨e.body, q, true, { j with sendPoint := j.sendPoint + 1 }⟩ := by
  simp only [Journal.take, he, hs]

/-- An AWAITING entry is not handed over (R16, R17). -/
theorem take_awaiting {t : Fin 64} (he : j.entries[j.sendPoint]? = some e) (hs : e.state = .awaiting t) :
    j.take w = none := by
  simp only [Journal.take, he, hs]

end

/-- Settles O29: the control queue first, and then what the journal hands over at its send point. -/
theorem transmitterTakesTheNextFrame : Obligations.TransmitterTakesTheNextFrame := by
  refine ⟨fun s hp htx => ⟨fun hhold => exec_linkFrameTransmitStart_held hp hhold, fun hhold => ?_⟩,
    fun session n => ⟨fun _ _ _ _ _ => rfl, fun _ _ _ => rfl, fun _ _ _ _ => rfl, fun _ _ => rfl⟩⟩
  rw [exec_linkFrameTransmitStart hp htx hhold]
  refine ⟨fun f rest h => ?_, fun h hs => ?_, fun h hs hend => ?_, fun h hs e he => ⟨fun hready hw => ?_, fun q hsent => ?_,
    fun hready hw => ?_, fun t hawaiting => ?_⟩⟩
  · rw [sendNext_control h]
    rfl
  · rw [sendNext_down h hs]
  · rw [sendNext_up h hs, take_end hend]
  · rw [sendNext_up h hs, take_ready he hready hw]
    rfl
  · rw [sendNext_up h hs, take_sent he hsent]
    rfl
  · rw [sendNext_up h hs, take_full he hready hw]
  · rw [sendNext_up h hs, take_awaiting he hawaiting]

end Sys2Proof.Proofs
end

section
/-! PROOFS. START, STOP, ABORT and RESYNC: what each of them does to the part's own side. -/
namespace Sys2Proof.Proofs
open Sys2Proof.Machine Sys2Proof.Safety

section
variable {s : State}

/-! ### The pages of the MIRROR regions -/

/-- The pages a region covers (R71). -/
theorem mem_pages (r : Region) (p : Nat) : p ∈ r.pages ↔ r.covers p = true := by
  rw [Region.pages, Region.covers, List.mem_range'_1, decide_eq_true_iff]

/-- The valid MIRROR entries of the table (R70). -/
theorem mem_mirrorRegions (regions : Vector (Option Region) 32) (r : Region) :
    r ∈ mirrorRegions regions ↔ ∃ i : Fin 32, r ∈ regions[i] ∧ r.isMirror = true := by
  have hentry : (∃ x ∈ regions.toList, r ∈ x.filter Region.isMirror) ↔ some r ∈ regions ∧ r.isMirror = true := by
    simp [Option.filter_eq_some_iff]
  rw [mirrorRegions, List.mem_filterMap]
  refine hentry.trans ⟨fun ⟨hmem, hr⟩ => ?_, fun ⟨i, hi, hr⟩ => ⟨?_, hr⟩⟩
  · obtain ⟨i, hi, hget⟩ := Vector.getElem_of_mem hmem
    exact ⟨⟨i, hi⟩, hget, hr⟩
  · exact Vector.mem_of_getElem (i := i.val) (h := i.isLt) hi

/-- The pages that START FULL and RESYNC ALL mark (R43, R54). -/
theorem mem_allMirrorPages (s : State) (p : Nat) :
    p ∈ allMirrorPages s ↔ ∃ i : Fin 32, ∃ r ∈ s.regions[i], r.isMirror = true ∧ r.covers p = true := by
  simp only [allMirrorPages, List.mem_flatMap, mem_mirrorRegions, mem_pages]
  exact ⟨fun ⟨r, ⟨i, hi, hr⟩, hp⟩ => ⟨i, r, hi, hr, hp⟩, fun ⟨i, r, hi, hr, hp⟩ => ⟨r, ⟨i, hi, hr⟩, hp⟩⟩

/-! ### START -/

/-- START outside OFF is answered STATE (R195). -/
theorem doStart_state (m : State → Mirror) (h : ownStateOff s = false) : doStart m s = answered 135 .state [] s := by
  rw [doStart, if_pos (by simp [h])]
  rfl

/-- START waits for the unsettled writes with BUSY (R82). -/
theorem doStart_busy (m : State → Mirror) (hoff : ownStateOff s = true) (h : s.path.unsettledCount ≠ 0) :
    doStart m s = answered 135 .busy [] s := by
  rw [doStart, if_neg (by simp [hoff]), if_pos h]
  rfl

/-- A replica's START begins to listen (R148). -/
theorem doStart_replica (m : State → Mirror) (hr : s.role = .replica) (hoff : s.replica.state = .off)
    (h : s.path.unsettledCount = 0) : doStart m s = answered 135 .ok [] { s with
      replica := { s.replica with state := .listening }, mirror := { s.mirror with drainCount := 0 } } := by
  rw [doStart, if_neg (by simp [(ownStateOff_replica hr).2 hoff]), if_neg (not_not.2 h)]
  split
  · next hprimary => exact nomatch hr.symm.trans hprimary
  · rfl

/-- A primary's START offers a session (R43). -/
theorem doStart_primary (m : State → Mirror) (hr : s.role = .primary) (hoff : s.mirror.state = .off)
    (h : s.path.unsettledCount = 0) : doStart m s = startPrimary (m s) s := by
  rw [doStart, if_neg (by simp [(ownStateOff_primary hr).2 hoff]), if_neg (not_not.2 h)]
  simp only [hr]

/-- With the sweep's values at 0 only the drain count is left to put to 0 (R43, R192). -/
theorem startPrimary_eq {m : Mirror} (hcursor : m.cursor = 0) (hpass : m.passCount = 0) (hcopied : m.copied = 0)
    (hskipped : m.skipped = 0) :
    startPrimary m s = answered 135 .ok [] (offered { s with mirror := { m with drainCount := 0 } }) := by
  have hzero : { m with cursor := 0, passCount := 0, copied := 0, skipped := 0, drainCount := 0 } =
      { m with drainCount := 0 } := by
    rw [Mirror.mk.injEq]
    simp only [hcursor, hpass, hcopied, hskipped, and_self]
  rw [startPrimary, hzero]
  rfl

/-- The map after START FULL (R43). -/
theorem fullStart_eq (hoff : s.mirror.state = .off) (hnone : s.mirror.copying = none) : fullStart s = { s.mirror with
    marks := (s.mirror.markAll (allMirrorPages s)).marks, catchupActive := true, cleanArmed := false } := by
  rw [fullStart, markAll_off _ hoff hnone]

/-- START's two forms answer alike wherever neither is carried out. -/
theorem exec_start {c : Instr} {d : Delivery} {t : State} (hs : CommandTaken s) (hd : Carries d c)
    (hc : c = .startFull ∨ c = .startClean) (ht : ∀ m : State → Mirror, doStart m s = t) :
    exec c (handed .service d s) = .next t := by
  rcases hc with rfl | rfl
  · exact exec_carriedOut hs hd (ht fullStart) rfl
  · exact exec_carriedOut hs hd (ht cleanStart) rfl

/-! ### STOP and ABORT -/

/-- A command that is carried out has a place for its response (R189). -/
theorem responseFits_of_taken (hs : CommandTaken s) : ResponseFits s := by
  obtain ⟨hp, hslot, hlen⟩ := hs
  exact ⟨hp, by simpa [hslot] using hlen⟩

/-- STOP NOW in OFF is answered STATE (R195). -/
theorem doStopNow_state (h : ownStateOff s = true) : doStopNow s = answered 136 .state [] s := by
  rw [doStopNow, if_pos h]
  rfl

/-- STOP NOW outside OFF stops the own side as a soft reset does (R48, R148). -/
theorem doStopNow_stopped (h : ownStateOff s = false) : doStopNow s = answered 136 .ok [] (softStopped s) := by
  rw [← softStop_eq, doStopNow, softStop, if_neg (by simp [h]), if_neg (by simp [h])]
  cases s.role <;> rfl

/-- STOP DRAIN begins to drain in STREAMING and CATCHUP (R49). -/
theorem doStopDrain_drains (hr : s.role = .primary) (hm : s.mirror.state = .streaming ∨ s.mirror.state = .catchup) :
    doStopDrain s = beginDrain s := by
  rw [doStopDrain, if_pos (by simp [hr, (capturing_iff _).2 hm])]

/-- Elsewhere STOP DRAIN is answered STATE (R195). -/
theorem doStopDrain_state (h : s.role = .replica ∨ ¬(s.mirror.state = .streaming ∨ s.mirror.state = .catchup)) :
    doStopDrain s = answered 136 .state [] s := by
  have hrefused : ¬((s.role == .primary && s.mirror.state.capturing) = true) := by
    rw [Bool.and_eq_true, beq_iff_eq, capturing_iff]
    rintro ⟨hr, hm⟩
    exact h.elim (fun hreplica => nomatch hr.symm.trans hreplica) (absurd hm)
  rw [doStopDrain, if_neg hrefused]
  rfl

/-- ABORT with nothing deferred is answered OK (R196). -/
theorem doAbort_free (h : s.port.slot = none) : doAbort s = answered 137 .ok [] s := by
  simp only [doAbort, h]
  rfl

/-- ABORT of a drain answers itself first, and then the drain (R53, R191). -/
theorem doAbort_draining (h : s.port.slot = some .stopDrain) :
    doAbort s = drainEnded .aborted [] (stoppedNow (answered 137 .ok [] s)) := by
  simp only [doAbort, h, abortDrain, stopPrimary_eq, endDrain_eq]
  rfl

/-! ### RESYNC -/

/-- Marks made in STREAMING make it CATCHUP; every other state stays (R29). -/
theorem markAll_state {ps : List Nat} (hps : ps ≠ []) (m : Mirror) :
    (m.markAll ps).state = if m.state = .streaming then .catchup else m.state := by
  induction ps generalizing m with
  | nil => exact absurd rfl hps
  | cons p ps ih =>
    cases ps with
    | nil => exact Mirror.mark_state p m
    | cons q qs =>
      have hrest : ((m.mark p).markAll (q :: qs)).state = _ := ih (List.cons_ne_nil q qs) (m.mark p)
      rw [show m.markAll (p :: q :: qs) = (m.mark p).markAll (q :: qs) from rfl, hrest, Mirror.mark_state]
      split <;> simp_all

/-- Marks made outside OFF leave catch-up-active set (R29). -/
theorem markAll_active {ps : List Nat} (hps : ps ≠ []) {m : Mirror} (hon : m.state ≠ .off) :
    (m.markAll ps).catchupActive = true := by
  induction ps generalizing m with
  | nil => exact absurd rfl hps
  | cons p ps ih =>
    cases ps with
    | nil => exact Mirror.mark_active p m hon
    | cons q qs =>
      refine ih (m := m.mark p) (List.cons_ne_nil q qs) ?_
      rw [Mirror.mark_state]
      split
      · nofun
      · exact hon

/-- Marks set the recopy flag of the COPYING page if it is among them (R36). -/
theorem markAll_copying (ps : List Nat) (m : Mirror) : (m.markAll ps).copying =
    m.copying.map (fun c => if c.page ∈ ps then { c with recopy := true } else c) := by
  induction ps generalizing m with
  | nil => simp [Mirror.markAll]
  | cons p ps ih =>
    rw [show m.markAll (p :: ps) = (m.mark p).markAll ps from rfl, ih, Mirror.mark_copying, Mirror.touch, Option.map_map]
    congr 1
    funext c
    by_cases hp : c.page = p <;> simp [hp]

/-- The mirror after a RESYNC of pages: they are marked, and in STREAMING catch-up-active is set even without pages (R54). -/
def resynced (ps : List Nat) (m : Mirror) : Mirror :=
  if m.state = .streaming then (m.markAll ps).setCatchup else m.markAll ps

/-- A RESYNC's effect and its answer (R54, R196). -/
theorem performResync_eq (plan : ResyncPlan) (s : State) : performResync plan s =
    answered 138 .ok (BitVec.ofNat 8 plan.scope ::
      beBytes 3 ((resynced plan.pages s.mirror).marks.length - s.mirror.marks.length))
      { s with mirror := resynced plan.pages s.mirror } := by
  simp only [performResync, respond_eq, beBytes_one]
  rfl

/-- The marks after a RESYNC (R54). -/
theorem resynced_marks (ps : List Nat) (m : Mirror) : (resynced ps m).marks = (m.markAll ps).marks := by
  unfold resynced
  split <;> rfl

/-- The COPYING page after a RESYNC (R36). -/
theorem resynced_copying (ps : List Nat) (m : Mirror) : (resynced ps m).copying = (m.markAll ps).copying := by
  unfold resynced
  split <;> rfl

/-- The mirror state after a RESYNC with pages (R29). -/
theorem resynced_state {ps : List Nat} (hps : ps ≠ []) (m : Mirror) :
    (resynced ps m).state = if m.state = .streaming then .catchup else m.state := by
  unfold resynced
  split
  · next h => rw [Mirror.setCatchup, markAll_state hps, if_pos h]; rfl
  · next h => rw [markAll_state hps, if_neg h]

/-- Catch-up-active after a RESYNC with pages (R29). -/
theorem resynced_active {ps : List Nat} (hps : ps ≠ []) {m : Mirror} (hon : m.state ≠ .off) :
    (resynced ps m).catchupActive = true := by
  unfold resynced
  split
  · rfl
  · exact markAll_active hps hon

/-- Where RESYNC is taken (R54). -/
theorem resyncTaken_iff (s : State) :
    resyncTaken s = true ↔ s.role = .primary ∧ s.mirror.state ≠ .off ∧ s.mirror.state ≠ .draining := by
  unfold resyncTaken
  cases s.role <;> cases s.mirror.state <;> simp [MirrorState.capturing]

/-- RESYNC's first check (R196). -/
theorem doResync_range {scope : ResyncScope} (h : resyncInRange scope = false) :
    doResync scope s = answered 138 .range [] s := by
  rw [doResync, if_pos (by simp [h])]
  rfl

/-- RESYNC's second check (R196). -/
theorem doResync_state {scope : ResyncScope} (hrange : resyncInRange scope = true)
    (h : s.role = .replica ∨ s.mirror.state = .off ∨ s.mirror.state = .draining) :
    doResync scope s = answered 138 .state [] s := by
  have hrefused : ¬(resyncTaken s = true) := by
    rw [resyncTaken_iff]
    rintro ⟨hr, hoff, hdraining⟩
    rcases h with h | h | h
    · exact nomatch hr.symm.trans h
    · exact hoff h
    · exact hdraining h
  rw [doResync, if_neg (by simp [hrange]), if_pos (by simpa using hrefused)]
  rfl

/-- RESYNC past its first two checks turns on the lookup (R196). -/
theorem doResync_taken {scope : ResyncScope} (hrange : resyncInRange scope = true) (hr : s.role = .primary)
    (hoff : s.mirror.state ≠ .off) (hdraining : s.mirror.state ≠ .draining) :
    doResync scope s = (resyncPlan scope s).elim (answered 138 .range [] s) (fun plan => performResync plan s) := by
  rw [doResync, if_neg (by simp [hrange]), if_neg (by simp [(resyncTaken_iff s).2 ⟨hr, hoff, hdraining⟩])]
  cases resyncPlan scope s <;> rfl

/-- A RESYNC whose plan has no pages leaves a state outside STREAMING as it is (R54). -/
theorem resynced_nil {m : Mirror} (h : m.state ≠ .streaming) : resynced [] m = m :=
  if_neg h

/-- In STREAMING it sets catch-up-active (R54). -/
theorem resynced_nil_streaming {m : Mirror} (h : m.state = .streaming) (hactive : m.catchupActive = false) :
    resynced [] m = { m with state := .catchup, catchupActive := true, cursor := 0, passCount := 0 } := by
  rw [resynced, if_pos h, show m.markAll [] = m from rfl, Mirror.setCatchup, if_pos h]
  simp only [hactive, Bool.false_eq_true, if_false]

end

/-- Settles O43: the two checks, and then the role. -/
theorem startOffersASessionOrListens : Obligations.StartOffersASessionOrListens := by
  intro s c d hs hd hc
  refine ⟨fun hon => exec_start hs hd hc fun m => doStart_state m hon,
    fun hoff hbusy => exec_start hs hd hc fun m => doStart_busy m hoff hbusy,
    fun hr hoff hsettled => exec_start hs hd hc fun m => doStart_replica m hr hoff hsettled,
    fun hr hoff hrest hsettled => ?_⟩
  obtain ⟨hmarks, hcopying, hcursor, hpass, hcopied, hskipped, -⟩ := hrest
  refine ⟨?_, ?_⟩
  · rintro rfl
    refine exec_carriedOut (act := doStart cleanStart) hs hd ?_ rfl
    rw [doStart_primary _ hr hoff hsettled]
    exact startPrimary_eq hcursor hpass hcopied hskipped
  · rintro rfl
    refine ⟨(s.mirror.markAll (allMirrorPages s)).marks, exec_carriedOut (act := doStart fullStart) hs hd ?_ rfl,
      Mirror.markAll_pairwise _ _ (by rw [hmarks]; exact .nil), fun p => ?_⟩
    · rw [doStart_primary _ hr hoff hsettled, fullStart_eq hoff hcopying]
      exact startPrimary_eq hcursor hpass hcopied hskipped
    · rw [Mirror.mem_markAll, hmarks, ← mem_allMirrorPages]
      simp

/-- Settles O44: STOP NOW goes by role and state, STOP DRAIN by the mirror state, ABORT by the slot, and the drain timer ends
a drain that still runs. -/
theorem stopAndDrain : Obligations.StopAndDrain := by
  refine ⟨fun s d hs => ⟨fun hd => ⟨fun hoff => exec_carriedOut hs hd (doStopNow_state hoff) rfl,
      fun hr hm => ?_, fun hr hm => ?_, fun hr hm => ?_⟩,
    fun hd => ⟨fun hr hm => exec_carriedOut hs hd (doStopDrain_drains hr hm) rfl,
      fun h => exec_carriedOut hs hd (doStopDrain_state h) rfl⟩, fun hd => ?_⟩, fun s d hs hslot hd => ?_,
    fun s hp hm htimer => ?_⟩
  · have hon : ownStateOff s = false := Bool.eq_false_iff.2 (mt (ownStateOff_primary hr).1 hm)
    rw [← softStopped_primary hr hm]
    exact exec_carriedOut hs hd (doStopNow_stopped hon) rfl
  · have hon : ownStateOff s = false := Bool.eq_false_iff.2 (mt (ownStateOff_replica hr).1 (by simp [hm]))
    rw [← softStopped_session hr hm]
    exact exec_carriedOut hs hd (doStopNow_stopped hon) rfl
  · have hon : ownStateOff s = false := Bool.eq_false_iff.2 (mt (ownStateOff_replica hr).1 (by simp [hm]))
    rw [← softStopped_listening hr hm]
    exact exec_carriedOut hs hd (doStopNow_stopped hon) rfl
  · rw [← doAbort_free hs.2.1]
    exact takeCommand_placed hd (responseFits_of_taken hs) doAbort
  · rw [← doAbort_draining hslot]
    exact takeCommand_placed hd hs doAbort
  · rw [← stopPrimary_eq, ← endDrain_eq]
    exact (live_running hp).trans (congrArg _ (if_pos (by simp [htimer, hm])))

section
variable {s : State}

/-! ### The plan of a RESYNC -/

/-- A range whose base page lies in no MIRROR region has no plan (R54). -/
theorem resyncPages_none {base count : Nat} (h : ∀ i r, regionAt s.regions base = some (i, r) → r.isMirror = false) :
    resyncPages base count s = none := by
  unfold resyncPages
  split
  · rfl
  · next i r hat => rw [if_pos (by simp [h i r hat])]

/-- A range inside the MIRROR region of its base page is its own plan (R54). -/
theorem resyncPages_inside {base count : Nat} {i : Fin 32} {r : Region} (hat : regionAt s.regions base = some (i, r))
    (hr : r.isMirror = true) (h : base + count ≤ r.base + r.count) :
    resyncPages base count s = some { scope := 0, pages := List.range' base count } := by
  simp only [resyncPages, hat, hr, Bool.not_true, Bool.false_eq_true, if_false, if_pos h]

/-- A range past that region's end becomes the MIRROR regions that share a page with it (R54). -/
theorem resyncPages_regions {base count : Nat} {i : Fin 32} {r : Region} (hat : regionAt s.regions base = some (i, r))
    (hr : r.isMirror = true) (h : r.base + r.count < base + count) : ∃ pages : List Nat,
    resyncPages base count s = some { scope := 1, pages := pages }
      ∧ ∀ p : Nat, p ∈ pages ↔ ∃ k : Fin 32, ∃ q ∈ s.regions[k], q.isMirror = true ∧ q.covers p = true
        ∧ q.base < base + count ∧ base < q.base + q.count := by
  refine ⟨((mirrorRegions s.regions).filter fun q =>
    q.overlaps { base := base, count := count, kind := r.kind }).flatMap Region.pages, ?_, fun p => ?_⟩
  · simp only [resyncPages, hat, hr, Bool.not_true, Bool.false_eq_true, if_false, if_neg (Nat.not_le.2 h)]
  · simp only [List.mem_flatMap, List.mem_filter, mem_mirrorRegions, mem_pages, Region.overlaps, decide_eq_true_iff]
    exact ⟨fun ⟨q, ⟨⟨k, hk, hq⟩, hover⟩, hp⟩ => ⟨k, q, hk, hq, hp, hover⟩,
      fun ⟨k, q, hk, hq, hp, hover⟩ => ⟨q, ⟨⟨k, hk, hq⟩, hover⟩, hp⟩⟩

/-- The plan for a region's number is that of its entry (R54). -/
theorem resyncPlan_region {index : Byte} {i : Fin 32} (h : index.toNat = i.val) :
    resyncPlan (.region index) s = resyncRegion i s := by
  simp only [resyncPlan, regionIndex_some h]

/-- A MIRROR entry named is marked whole (R54). -/
theorem resyncRegion_some {i : Fin 32} {r : Region} (hi : s.regions[i] = some r) (hr : r.isMirror = true) :
    resyncRegion i s = some { scope := 1, pages := r.pages } := by
  simp only [resyncRegion, hi, hr, if_true]

/-- Another entry, or an empty one, is no plan (R54). -/
theorem resyncRegion_none {i : Fin 32} (h : ∀ r ∈ s.regions[i], r.isMirror = false) : resyncRegion i s = none := by
  unfold resyncRegion
  split
  · next r hi => rw [if_neg (by simp [h r hi])]
  · rfl

end

/-- Settles O45: the checks in their order, the pages marked, and the plan of each scope. -/
theorem resyncMarksItsScope : Obligations.ResyncMarksItsScope := by
  refine ⟨fun s scope d hs hmap hd => ⟨fun h => exec_carriedOut hs hd (doResync_range h) rfl, fun hrange =>
      ⟨fun h => exec_carriedOut hs hd (doResync_state hrange h) rfl, fun hr hoff hdraining => ⟨fun hplan => ?_,
        fun plan hplan hpages => ?_⟩⟩⟩,
    fun s d plan hs hd hr hoff hdraining hplan hpages => ?_,
    fun s base count => ⟨resyncPages_none, fun i r hat hr => ⟨resyncPages_inside hat hr, resyncPages_regions hat hr⟩⟩,
    fun s index => ⟨fun i r hindex hi hr => (resyncPlan_region hindex).trans (resyncRegion_some hi hr),
      fun i hindex h => (resyncPlan_region hindex).trans (resyncRegion_none h)⟩,
    fun s => ⟨allMirrorPages s, rfl, mem_allMirrorPages s⟩⟩
  · have hdo := doResync_taken hrange hr hoff hdraining
    rw [hplan] at hdo
    exact exec_carriedOut hs hd hdo rfl
  · have hdo := doResync_taken hrange hr hoff hdraining
    rw [hplan] at hdo
    refine ⟨{ s with mirror := resynced plan.pages s.mirror },
      exec_carriedOut hs hd (hdo.trans (performResync_eq plan s)) rfl, rfl, resynced_active hpages hoff,
      resynced_state hpages s.mirror, ?_, fun p => ?_, ?_⟩
    · rw [resynced_marks]
      exact Mirror.markAll_pairwise _ _ hmap.1
    · rw [resynced_marks]
      exact Mirror.mem_markAll ..
    · exact (resynced_copying ..).trans (markAll_copying ..)
  · have hdo := doResync_taken (scope := .all) rfl hr hoff hdraining
    have hall : plan = { scope := 2, pages := [] } := by
      obtain rfl := Option.some.inj hplan
      rw [← hpages]
    rw [hplan, hall, Option.elim_some, performResync_eq, resynced_marks, show s.mirror.markAll [] = s.mirror from rfl,
      Nat.sub_self] at hdo
    refine ⟨fun hm => ?_, fun hm hactive => ?_⟩
    · rw [resynced_nil hm] at hdo
      exact exec_carriedOut hs hd hdo rfl
    · rw [resynced_nil_streaming hm hactive] at hdo
      exact exec_carriedOut hs hd hdo rfl

end Sys2Proof.Proofs
end
